-- ==== Sys2Proof/Word.lean ====
section
/-! DEFINITION. The word types of the block (00_scope.md R9) and the pixel record (R12). -/

namespace Sys2Proof

/-- `u8` of R9. -/
abbrev Byte := BitVec 8

/-- `u32` of R9. -/
abbrev U32 := BitVec 32

/-- `u64` of R9. -/
abbrev U64 := BitVec 64

/-- A pixel: four unsigned 8-bit channels (R12). The record fixes no storage layout. -/
structure Pixel where
  r : Byte
  g : Byte
  b : Byte
  a : Byte
  deriving DecidableEq, Repr

end Sys2Proof
end

