-- ==== Sys2Proof/Config.lean ====
section
/-! DEFINITION. The fixed parameters of the block that the shape of its state rests on (00_scope.md R7). The spec leaves
no parameter open (R8) and no behaviour is "any value" (93_implementation_defined.md section 1), so there is no free value. -/

namespace Sys2Proof.Config

/-- Entries of the colour cache (R7, R24). -/
abbrev cacheEntries : Nat := 64

/-- Length of the header in bytes (R7). -/
abbrev headerLength : Nat := 14

/-- Length of the longest opcode in bytes (R7). -/
abbrev longestOpcode : Nat := 5

/-- PREV right after reset (R22). -/
def prevReset : Pixel := { r := 0, g := 0, b := 0, a := 255 }

/-- Every cache entry right after reset (R24). -/
def cacheReset : Pixel := { r := 0, g := 0, b := 0, a := 0 }

end Sys2Proof.Config
end

