-- ==== Sys2Proof/Syntax.lean ====
section
/-! DEFINITION. The instruction set: one constructor per row of spec/opcode_table.json. Operands are the unsigned fields of
the encoding at their widths (30_encoding.md R73-R79); the biases are applied in Machine/Operands.lean (R75). -/

namespace Sys2Proof

/-- The six opcodes (R3, R72). -/
inductive Instr where
  /-- QOI_OP_INDEX: `i = op[5:0]` (R73). -/
  | index (i : BitVec 6)
  /-- QOI_OP_DIFF: `ur = op[5:4]`, `ug = op[3:2]`, `ub = op[1:0]` (R74). -/
  | diff (ur ug ub : BitVec 2)
  /-- QOI_OP_LUMA: `ugreen = op[5:0]`, `urg = b2[7:4]`, `ubg = b2[3:0]` (R76). -/
  | luma (ugreen : BitVec 6) (urg ubg : BitVec 4)
  /-- QOI_OP_RUN: `n = op[5:0]`, 0..61 (R79). -/
  | run (n : BitVec 6)
  /-- QOI_OP_RGB: three data bytes (R77). -/
  | rgb (r g b : Byte)
  /-- QOI_OP_RGBA: four data bytes (R78). -/
  | rgba (r g b a : Byte)
  deriving DecidableEq, Repr

end Sys2Proof
end

