-- ==== Sys2Proof/Decode.lean ====
section
/-! DEFINITION. The decoder of opcodes, total on every list of bytes, and the encoder (30_encoding.md sections 2 and 3). -/

namespace Sys2Proof

/-- The kind an op byte selects (R72). -/
inductive Kind where
  | index | diff | luma | run | rgb | rgba
  deriving DecidableEq, Repr

/-- Why a list of bytes holds no whole opcode: the only way an opcode fails to decode is that a byte is missing (R82). -/
inductive DecodeError where
  /-- There is no op byte. -/
  | opMissing
  /-- The op byte is there and not all of its data bytes are. -/
  | operandMissing (op : Byte)
  deriving DecidableEq, Repr

/-- The kind of an op byte, in the decode order of R80: 0xFE and 0xFF before the pattern `11xxxxxx`. -/
def kindOf (op : Byte) : Kind :=
  if op = 0xFE then .rgb
  else if op = 0xFF then .rgba
  else if op.extractLsb' 6 2 = 0b00 then .index
  else if op.extractLsb' 6 2 = 0b01 then .diff
  else if op.extractLsb' 6 2 = 0b10 then .luma
  else .run

/-- Bytes of an opcode of this kind, the op byte included (R72). -/
def kindLength : Kind → Nat
  | .index => 1
  | .diff => 1
  | .luma => 2
  | .run => 1
  | .rgb => 4
  | .rgba => 5

/-- The opcode of this kind whose op byte is `op` and whose data bytes head `rest`, and the bytes after it (R73-R79). -/
def decodeAs (kind : Kind) (op : Byte) (rest : List Byte) : Except DecodeError (Instr × List Byte) :=
  match kind with
  | .index => .ok (.index (op.extractLsb' 0 6), rest)
  | .diff => .ok (.diff (op.extractLsb' 4 2) (op.extractLsb' 2 2) (op.extractLsb' 0 2), rest)
  | .luma =>
    match rest with
    | b2 :: tail => .ok (.luma (op.extractLsb' 0 6) (b2.extractLsb' 4 4) (b2.extractLsb' 0 4), tail)
    | [] => .error (.operandMissing op)
  | .run => .ok (.run (op.extractLsb' 0 6), rest)
  | .rgb =>
    match rest with
    | r :: g :: b :: tail => .ok (.rgb r g b, tail)
    | _ => .error (.operandMissing op)
  | .rgba =>
    match rest with
    | r :: g :: b :: a :: tail => .ok (.rgba r g b a, tail)
    | _ => .error (.operandMissing op)

/-- The opcode at the head of a list of bytes, and the bytes after it. -/
def decode : List Byte → Except DecodeError (Instr × List Byte)
  | [] => .error .opMissing
  | op :: rest => decodeAs (kindOf op) op rest

/-- The bytes of an instruction, first byte first, each field at the place R73-R79 give it. -/
def encode : Instr → List Byte
  | .index i => [0b00#2 ++ i]
  | .diff ur ug ub => [0b01#2 ++ ur ++ ug ++ ub]
  | .luma ugreen urg ubg => [0b10#2 ++ ugreen, urg ++ ubg]
  | .run n => [0b11#2 ++ n]
  | .rgb r g b => [0xFE, r, g, b]
  | .rgba r g b a => [0xFF, r, g, b, a]

/-- Bytes of an instruction (R57, R72). -/
def instrLength : Instr → Nat
  | .index _ => 1
  | .diff _ _ _ => 1
  | .luma _ _ _ => 2
  | .run _ => 1
  | .rgb _ _ _ => 4
  | .rgba _ _ _ _ => 5

/-- `count` bytes of `w`, the least significant byte first. -/
def bytesOf : (count : Nat) → (w : Nat) → List Byte
  | 0, _ => []
  | n + 1, w => BitVec.ofNat 8 w :: bytesOf n (w / 256)

/-- The bytes of an opcode-table word: the table numbers the first byte's bits 7..0 and each later byte's bits on from there
(log 15); every bit from `nbits` up is 0, to the longest opcode. -/
def tableBytes (nbits w : Nat) : List Byte :=
  bytesOf Config.longestOpcode (w % 2 ^ nbits)

/-- The instruction the decoder reads from an opcode-table word. -/
def decodeTableWord (nbits w : Nat) : Option Instr :=
  match decode (tableBytes nbits w) with
  | .ok (i, _) => some i
  | .error _ => none

end Sys2Proof
end

