-- ==== Sys2Proof/Machine/State.lean ====
section
/-! DEFINITION. The state of the block (10_state.md R20) and the environment's side of it that a run takes as input: the
byte source's answers, the host's inputs and the responses given (20_memory.md R46, R47, R50; log 1, 2, 3, 10). -/

namespace Sys2Proof.Machine

/-- PHASE, the block's control state (R33). -/
inductive Phase where
  | header | pixels | done | error
  deriving DecidableEq, Repr

/-- ERRCODE (R34): the error that ended the session. -/
inductive ErrCode where
  | none | format | unsupported | truncated
  deriving DecidableEq, Repr

/-- ERRINFO.STAGE (R35): which check or read failed. -/
inductive Stage where
  | none | magic | header | channels | colorspace | opcode | operand
  deriving DecidableEq, Repr

/-- ERRINFO (R35): what the error saw. -/
structure ErrInfo where
  stage : Stage
  value : Byte
  offset : Nat
  pixel : U64
  deriving DecidableEq, Repr

/-- A host request (R18). -/
inductive Command where
  | reset | parseHeader | next
  deriving DecidableEq, Repr

/-- A field of the host's read-only status view (R37). -/
inductive ViewField where
  | width | height | channels | colorspace | phase | errcode | errinfo | emitted | refused
  deriving DecidableEq, Repr

/-- What a read of a field of the status view answers (R37). -/
inductive ViewValue where
  | width (v : U32)
  | height (v : U32)
  | channels (v : Byte)
  | colorspace (v : Byte)
  | phase (v : Phase)
  | errcode (v : BitVec 2)
  | errinfo (v : ErrInfo)
  | emitted (v : U64)
  | refused (v : Bool)
  deriving DecidableEq, Repr

/-- One thing that happens to the block from outside, in the order it happens (R46, R47; log 1). -/
inductive Input where
  /-- The host issues a command (R18). -/
  | command (c : Command)
  /-- The byte source answers BYTE(v) for the next byte (R50). -/
  | byte (v : Byte)
  /-- The byte source signals its end (R50). -/
  | eos
  /-- The host reads a field of the status view (R37). -/
  | read (f : ViewField)
  deriving DecidableEq, Repr

/-- What the block gives the host: a Header, a pixel or an error as the response of a command (R15, R90, R105, R157), or a
field of the status view (R37). RESET returns nothing (R178). -/
inductive Response where
  | header (width height : U32) (channels colorspace : Byte)
  | pixel (p : Pixel)
  | error (code : ErrCode) (info : ErrInfo)
  | view (v : ViewValue)
  deriving DecidableEq, Repr

/-- The registers of the status view that have no value before a successful PARSE_HEADER (R26-R29, R37, R44). -/
inductive HeaderReg where
  | width | height | channels | colorspace
  deriving DecidableEq, Repr

/-- Why the machine stops with a fault. -/
inductive Fault where
  /-- The host reads a HDR field of the status view that has no value (R37, "Reading a HDR field that has no value faults in
  the model"; D15; 93_implementation_defined.md row 7). Raised by that read alone: no opcode and no command raises it. Safe. -/
  | noValue (reg : HeaderReg)
  deriving DecidableEq, Repr

/-- Why the model gives a step no meaning. -/
inductive Refusal where
  /-- An instruction without a meaning in the model: raised by an arm of exec only. Safe. -/
  | notModelled (mnemonic : String)
  /-- A command that PHASE admits, issued while REFUSED is set: the model gives no meaning to what follows a refused command
  (R166; log 6). Raised when the command is issued. Safe. -/
  | afterRefused (c : Command)
  /-- PARSE_HEADER or NEXT issued while a command holds on the byte source: such a host is outside the model (R171,
  93_implementation_defined.md row 8; log 7). Raised when the command is issued. Safe. -/
  | concurrentCommand (c : Command)
  deriving DecidableEq, Repr

/-- The state: the block's own (R20), then the environment's side. -/
structure State where
  /-- PREV (R22). -/
  prev : Pixel
  /-- RUNCNT (R23). -/
  runcnt : U32
  /-- CACHE[0..63] (R24). -/
  cache : Vector Pixel Config.cacheEntries
  /-- WIDTH (R26); `none` is the spec's "no value". -/
  width : Option U32
  /-- HEIGHT (R27). -/
  height : Option U32
  /-- CHANNELS (R28). -/
  channels : Option Byte
  /-- COLORSPACE (R29). -/
  colorspace : Option Byte
  /-- CURSOR (R31). -/
  cursor : Nat
  /-- EMITTED (R32). -/
  emitted : U64
  /-- TOTAL (R32). -/
  total : Option U64
  /-- PHASE (R33). -/
  phase : Phase
  /-- ERRCODE (R34). -/
  errcode : ErrCode
  /-- ERRINFO (R35). -/
  errinfo : ErrInfo
  /-- REFUSED (R36). -/
  refused : Bool
  /-- The bytes `S[0..]` of the session's byte source that it has answered so far (R46, R50). -/
  source : List Byte
  /-- The byte source has signalled its end after those bytes (R50, R51). -/
  exhausted : Bool
  /-- What is still to happen from outside, in order (R46, R47). -/
  inputs : List Input
  /-- The command that waits for the byte source (R50). -/
  held : Option Command
  /-- What the block has given the host, oldest first. -/
  responses : List Response
  deriving DecidableEq, Repr

/-- ERRINFO with all fields 0 (R35, R173). -/
def ErrInfo.reset : ErrInfo := { stage := .none, value := 0, offset := 0, pixel := 0 }

/-- The machine right after reset (R174), with nothing bound to it from outside (log 1, 2, 3, 10). -/
def State.reset : State where
  prev := Config.prevReset
  runcnt := 0
  cache := Vector.replicate Config.cacheEntries Config.cacheReset
  width := none
  height := none
  channels := none
  colorspace := none
  cursor := 0
  emitted := 0
  total := none
  phase := .header
  errcode := .none
  errinfo := ErrInfo.reset
  refused := false
  source := []
  exhausted := false
  inputs := []
  held := none
  responses := []

end Sys2Proof.Machine
end

