-- ==== Sys2Proof/Machine/Operands.lean ====
section
/-! DEFINITION. Operand forms: the signed deltas of DIFF and LUMA (30_encoding.md R74-R76), the channel arithmetic
(42_pixel_opcodes.md R125), the hash that addresses the cache (41_pixel_step.md R112), big-endian fields (00_scope.md R11)
and the raster position of a pixel (20_memory.md R62). -/

namespace Sys2Proof.Machine

/-- A delta of DIFF: bias 2 (R74, R75). -/
def diffDelta (u : BitVec 2) : Int := (u.toNat : Int) - 2

/-- The green delta of LUMA: bias 32 (R76). -/
def lumaGreen (ugreen : BitVec 6) : Int := (ugreen.toNat : Int) - 32

/-- The red or blue delta of LUMA: the 4-bit field with bias 8, relative to the green delta (R76). -/
def lumaRelative (ugreen : BitVec 6) (u : BitVec 4) : Int := (u.toNat : Int) + lumaGreen ugreen - 8

/-- `(old + d) mod 256` (R125). -/
def addDelta (old : Byte) (d : Int) : Byte := BitVec.ofInt 8 ((old.toNat : Int) + d)

/-- A delta added to each of r, g, b; alpha carried through (R125). -/
def addDeltas (p : Pixel) (dr dg db : Int) : Pixel :=
  { r := addDelta p.r dr, g := addDelta p.g dg, b := addDelta p.b db, a := p.a }

/-- The pixel DIFF makes of PREV (R129). -/
def diffPixel (ur ug ub : BitVec 2) (prev : Pixel) : Pixel :=
  addDeltas prev (diffDelta ur) (diffDelta ug) (diffDelta ub)

/-- The pixel LUMA makes of PREV (R132). -/
def lumaPixel (ugreen : BitVec 6) (urg ubg : BitVec 4) (prev : Pixel) : Pixel :=
  addDeltas prev (lumaRelative ugreen urg) (lumaGreen ugreen) (lumaRelative ugreen ubg)

/-- The sum under the hash, without overflow (R112). -/
def hashSum (p : Pixel) : Nat := p.r.toNat * 3 + p.g.toNat * 5 + p.b.toNat * 7 + p.a.toNat * 11

/-- `hash(p)`, a cache index (R16, R112). -/
def pixelHash (p : Pixel) : BitVec 6 := BitVec.ofNat 6 (hashSum p % 64)

/-- Concatenation `b0 ++ b1 ++ ...` as a big-endian integer (R11). -/
def bigEndian (bs : List Byte) : Nat := bs.foldl (fun acc b => acc * 256 + b.toNat) 0

/-- A big-endian 32-bit field (R52, R68, R69). -/
def bigEndian32 (bs : List Byte) : U32 := BitVec.ofNat 32 (bigEndian bs)

/-- `WIDTH * HEIGHT`, the exact 64-bit product (R32). -/
def pixelCount (w h : U32) : U64 := BitVec.ofNat 64 (w.toNat * h.toNat)

/-- Column and row of the `k`-th pixel of a session, in row-major order (R62, R118). The sink places the pixels; the block
keeps no raster. -/
def rasterPosition (k : Nat) (width : U32) : Nat × Nat := (k % width.toNat, k / width.toNat)

end Sys2Proof.Machine
end

