-- ==== Sys2Proof/Machine/Flags.lean ====
section
/-! DEFINITION. The block has no condition codes (10_state.md R38). Its status indicators are PHASE, ERRCODE, ERRINFO and
REFUSED: here are the rules that compute PHASE, the commands PHASE admits, and the numeric codes of the enumerations. -/

namespace Sys2Proof.Machine

/-- The commands a phase admits (R33, R166). RESET is admitted in every phase. -/
def admits : Phase → Command → Bool
  | _, .reset => true
  | .header, .parseHeader => true
  | .pixels, .next => true
  | .header, .next => false
  | .pixels, .parseHeader => false
  | .done, .parseHeader => false
  | .done, .next => false
  | .error, .parseHeader => false
  | .error, .next => false

/-- PHASE after a successful PARSE_HEADER (R98). -/
def phaseAfterHeader (total : U64) : Phase := if total = 0 then .done else .pixels

/-- PHASE after a NEXT has emitted: DONE if EMITTED = TOTAL (R114). A TOTAL without a value equals no count, so the pixel
completes all the same (R145; log 8). -/
def phaseAfterEmit (emitted : U64) (total : Option U64) (phase : Phase) : Phase :=
  if total = some emitted then .done else phase

/-- ERRCODE's value (R34, R147). -/
def errorNumber : ErrCode → BitVec 2
  | .none => 0
  | .format => 1
  | .unsupported => 2
  | .truncated => 3

/-- STAGE's value (R35). -/
def stageNumber : Stage → Nat
  | .none => 0
  | .magic => 1
  | .header => 2
  | .channels => 3
  | .colorspace => 4
  | .opcode => 5
  | .operand => 6

/-- Channels byte 3 or 4 (R96). -/
def legalChannels (c : Byte) : Bool := c == 3 || c == 4

/-- Colour-space byte 0 or 1 (R97). -/
def legalColorspace (c : Byte) : Bool := c == 0 || c == 1

end Sys2Proof.Machine
end

