-- ==== Sys2Proof/Machine/Ops.lean ====
section
/-! DEFINITION. The named operations over the state: the byte stream (00_scope.md R14), the colour cache (10_state.md R25),
emitting (R15), raising an error (60_exceptions.md R157), refusing (R166), RESET (70_reset_and_hazards.md R173), and the
common end of every pixel (41_pixel_step.md R106). -/

namespace Sys2Proof.Machine

/-- What a step answers. -/
abbrev Answer := Host.Outcome State Fault Refusal

/-! The byte stream. -/

/-- `CURSOR <- CURSOR + n`: `n` bytes are consumed (R31). -/
def State.consume (n : Nat) (s : State) : State := { s with cursor := s.cursor + n }

/-- The byte source answers BYTE(v). Exhaustion is final: a byte after the end is not taken (R51). -/
def State.deliver (v : Byte) (s : State) : State :=
  { s with source := if s.exhausted then s.source else s.source ++ [v] }

/-- The byte source signals its end (R50). -/
def State.exhaust (s : State) : State := { s with exhausted := true }

/-- The bytes that are there to be read at CURSOR. -/
def State.available (s : State) : List Byte := s.source.drop s.cursor

/-- How a read of the stream ends (R14, R50). -/
inductive Fetch (α : Type) where
  /-- The bytes, and the state with CURSOR past them. -/
  | got (a : α) (s : State)
  /-- EOS, and the state with CURSOR past the bytes read before it. -/
  | eos (s : State)
  /-- The source has not answered yet: the command holds. -/
  | hold

/-- `InByte()` (R14). -/
def inByte (s : State) : Fetch Byte :=
  match s.available with
  | v :: _ => .got v (s.consume 1)
  | [] => if s.exhausted then .eos s else .hold

/-- `InBytes(n)`: `n` calls of `InByte()`, EOS as soon as one returns EOS (R14). -/
def inBytes : (n : Nat) → State → Fetch (List Byte)
  | 0, s => .got [] s
  | n + 1, s =>
    match inByte s with
    | .hold => .hold
    | .eos t => .eos t
    | .got v t =>
      match inBytes n t with
      | .hold => .hold
      | .eos u => .eos u
      | .got vs u => .got (v :: vs) u

/-! The datapath. -/

/-- `PREV <- p` (R22). -/
def State.setPrev (p : Pixel) (s : State) : State := { s with prev := p }

/-- `RUNCNT <- v` (R23). -/
def State.setRuncnt (v : U32) (s : State) : State := { s with runcnt := v }

/-- `cache[i]` (R24, R61). -/
def State.cacheGet (i : BitVec 6) (s : State) : Pixel := s.cache[i.toNat]'i.isLt

/-- `cache[i] <- p` (R24). -/
def State.cacheSet (i : BitVec 6) (p : Pixel) (s : State) : State :=
  { s with cache := s.cache.set i.toNat p i.isLt }

/-- The cache update `cache[hash(PREV)] <- PREV` (R111). -/
def State.updateCache (s : State) : State := s.cacheSet (pixelHash s.prev) s.prev

/-! Responses. -/

/-- The block gives the host a response. -/
def State.respond (r : Response) (s : State) : State := { s with responses := s.responses ++ [r] }

/-- The pixels of a session, after one more response: a Header starts the session's pixels, a pixel is the next of them
(R62, R98). -/
def addSessionPixel (ps : List Pixel) (r : Response) : List Pixel :=
  match r with
  | .header _ _ _ _ => []
  | .pixel p => ps ++ [p]
  | .error _ _ => ps
  | .view _ => ps

/-- The pixels emitted since the latest Header, in order: in a session whose header is parsed, the session's own pixels, and
none of an earlier session (R62; log 10). -/
def sessionPixels (rs : List Response) : List Pixel := rs.foldl addSessionPixel []

/-- `Emit(PREV)`: the response of NEXT, and `EMITTED <- EMITTED + 1` (R15, R113). -/
def State.emit (s : State) : State :=
  { s with emitted := s.emitted + 1, responses := s.responses ++ [.pixel s.prev] }

/-- `if EMITTED = TOTAL: PHASE <- DONE` (R114). -/
def State.endIfComplete (s : State) : State :=
  { s with phase := phaseAfterEmit s.emitted s.total s.phase }

/-! Status. -/

/-- `raise E(info)`: ERRCODE and ERRINFO recorded, PHASE ERROR, the error as the response. OFFSET is CURSOR and PIXEL is
EMITTED at the raise (R147, R157). There is no return from it but RESET (R158). -/
def State.raise (code : ErrCode) (stage : Stage) (value : Byte) (s : State) : State :=
  { s with
    errcode := code
    errinfo := { stage := stage, value := value, offset := s.cursor, pixel := s.emitted }
    phase := .error
    responses := s.responses ++
      [.error code { stage := stage, value := value, offset := s.cursor, pixel := s.emitted }] }

/-- A refused command: `REFUSED <- 1`, and nothing else (R166). -/
def State.markRefused (s : State) : State := { s with refused := true }

/-- RESET: every register at its reset value, the byte source at the start of a new stream, a held command aborted. The
host's inputs and what the host has been given are not the block's and stay (R173, R175, R176; log 5). -/
def State.restart (s : State) : State :=
  { State.reset with inputs := s.inputs, responses := s.responses }

/-- The writes of a successful PARSE_HEADER (R91, R98). -/
def State.storeHeader (w h : U32) (c cs : Byte) (s : State) : State :=
  { s with
    width := some w
    height := some h
    channels := some c
    colorspace := some cs
    total := some (pixelCount w h)
    phase := phaseAfterHeader (pixelCount w h)
    responses := s.responses ++ [.header w h c cs] }

/-- The host reads a header register of the status view; where it has no value the model faults (R37, "Reading a HDR field that
has no value faults in the model"; decision D15 of the spec; row 7 of 93_implementation_defined.md). -/
def readReg {α : Type} (reg : HeaderReg) : Option α → Except Fault α
  | none => .error (.noValue reg)
  | some v => .ok v

/-- The status view (R37). -/
def State.viewValue (f : ViewField) (s : State) : Except Fault ViewValue :=
  match f with
  | .width => (readReg .width s.width).map .width
  | .height => (readReg .height s.height).map .height
  | .channels => (readReg .channels s.channels).map .channels
  | .colorspace => (readReg .colorspace s.colorspace).map .colorspace
  | .phase => .ok (.phase s.phase)
  | .errcode => .ok (.errcode (errorNumber s.errcode))
  | .errinfo => .ok (.errinfo s.errinfo)
  | .emitted => .ok (.emitted s.emitted)
  | .refused => .ok (.refused s.refused)

/-! Control. -/

/-- The next input is taken off the list. -/
def State.withInputs (rest : List Input) (s : State) : State := { s with inputs := rest }

/-- The command waits for the byte source (R50), or none does. -/
def State.setHeld (c : Option Command) (s : State) : State := { s with held := c }

/-- The state a NEXT leaves that consumed `n` bytes and produced `p` (R106): PREV, then the cache update, then the emit,
then the end of the image. -/
def State.produce (n : Nat) (p : Pixel) (s : State) : State :=
  ((((s.consume n).setPrev p).updateCache).emit).endIfComplete

/-- The common end of every NEXT (R106, R182). It completes in every state (R123, R145). -/
def completePixel (n : Nat) (p : Pixel) (s : State) : Answer := .next (s.produce n p)

end Sys2Proof.Machine
end

