-- ==== Sys2Proof/Machine/CacheRun.lean ====
section
/-! DEFINITION. The opcodes that name no new colour: INDEX (42_pixel_opcodes.md R126) and RUN (R141), and the run
continuation (41_pixel_step.md R107). -/

namespace Sys2Proof.Machine

/-- INDEX: `PREV <- cache[i]`, all four channels (R126; 90_conflicts.md C1). -/
def execIndex (i : BitVec 6) (s : State) : Answer := completePixel 1 (s.cacheGet i) s

/-- RUN: `RUNCNT <- n`, and PREV again (R141). -/
def execRun (n : BitVec 6) (s : State) : Answer := completePixel 1 s.prev (s.setRuncnt (n.setWidth 32))

/-- A NEXT while a run is owed: `RUNCNT <- RUNCNT - 1`, no byte read, and PREV again (R107). -/
def continueRun (s : State) : Answer := completePixel 0 s.prev (s.setRuncnt (s.runcnt - 1))

end Sys2Proof.Machine
end

