-- ==== Sys2Proof/Machine/Delta.lean ====
section
/-! DEFINITION. The opcodes that add to PREV modulo 256: DIFF (42_pixel_opcodes.md R129) and LUMA (R132). -/

namespace Sys2Proof.Machine

/-- DIFF (R129). -/
def execDiff (ur ug ub : BitVec 2) (s : State) : Answer := completePixel 1 (diffPixel ur ug ub s.prev) s

/-- LUMA (R132). -/
def execLuma (ugreen : BitVec 6) (urg ubg : BitVec 4) (s : State) : Answer :=
  completePixel 2 (lumaPixel ugreen urg ubg s.prev) s

end Sys2Proof.Machine
end

