-- ==== Sys2Proof/Machine/Literal.lean ====
section
/-! DEFINITION. The opcodes that carry a colour: RGB (42_pixel_opcodes.md R135) and RGBA (R138). CHANNELS takes no part
(R122, R139; 90_conflicts.md C7). -/

namespace Sys2Proof.Machine

/-- RGB: alpha is PREV's (R135). -/
def execRgb (r g b : Byte) (s : State) : Answer :=
  completePixel 4 { r := r, g := g, b := b, a := s.prev.a } s

/-- RGBA (R138). -/
def execRgba (r g b a : Byte) (s : State) : Answer :=
  completePixel 5 { r := r, g := g, b := b, a := a } s

end Sys2Proof.Machine
end

