-- ==== Sys2Proof/Machine/Dispatch.lean ====
section
/-! DEFINITION. The meaning of each instruction (30_encoding.md R80, 41_pixel_step.md R109): a NEXT that reads it. -/

namespace Sys2Proof.Machine

def exec (i : Instr) (s : State) : Host.Outcome State Fault Refusal :=
  match i with
  | .index i1 => Sys2Proof.Machine.execIndex i1 s
  | .diff ur ug ub => Sys2Proof.Machine.execDiff ur ug ub s
  | .luma ugreen urg ubg => Sys2Proof.Machine.execLuma ugreen urg ubg s
  | .run n => Sys2Proof.Machine.execRun n s
  | .rgb r g b => Sys2Proof.Machine.execRgb r g b s
  | .rgba r g b a => Sys2Proof.Machine.execRgba r g b a s

end Sys2Proof.Machine
end

