-- ==== Sys2Proof/Machine/Commands.lean ====
section
/-! DEFINITION. The host's commands PARSE_HEADER (40_header.md R91), NEXT (41_pixel_step.md R106) and RESET
(70_reset_and_hazards.md R173), their admission (60_exceptions.md R166), the hold on the byte source (20_memory.md R50), and
what each input from outside does. Machine/Step.lean only calls `advance`. -/

namespace Sys2Proof.Machine

/-- How a command ends: with an answer, or by holding on the byte source with no state change (R50). -/
inductive Attempt where
  | done (a : Answer)
  | hold

/-- A command goes on with what a read of the stream gave, or raises on EOS, or holds (R14, R50). -/
def Fetch.resolve {α : Type} (f : Fetch α) (onEos : State → Attempt) (onGot : α → State → Attempt) : Attempt :=
  match f with
  | .hold => .hold
  | .eos s => onEos s
  | .got a s => onGot a s

/-- A command that ends by raising (R157). -/
def raised (code : ErrCode) (stage : Stage) (value : Byte) (s : State) : Attempt :=
  .done (.next (s.raise code stage value))

/-- The four bytes of the magic, "qoif" in ASCII (R67; log 16). -/
def magic : List Byte := [0x71, 0x6F, 0x69, 0x66]

/-- The two enum fields are checked once all 14 bytes are read, channels first; then the Header is stored (R91, R97). -/
def checkHeader (w h : List Byte) (c cs : Byte) (s : State) : Attempt :=
  if legalChannels c = false then raised .unsupported .channels c s
  else if legalColorspace cs = false then raised .unsupported .colorspace cs s
  else .done (.next (s.storeHeader (bigEndian32 w) (bigEndian32 h) c cs))

/-- PARSE_HEADER (R91). -/
def parseHeader (s : State) : Attempt :=
  (inBytes 4 s).resolve (raised .format .magic 0) fun m s1 =>
    if m ≠ magic then raised .format .magic 0 s1
    else
      (inBytes 4 s1).resolve (raised .truncated .header 0) fun w s2 =>
        (inBytes 4 s2).resolve (raised .truncated .header 0) fun h s3 =>
          (inByte s3).resolve (raised .truncated .header 0) fun c s4 =>
            (inByte s4).resolve (raised .truncated .header 0) fun cs s5 =>
              checkHeader w h c cs s5

/-- NEXT with no run owed: the opcode at CURSOR runs when all its bytes are there. Where they are not, the command holds, or,
on an exhausted source, raises with the bytes that are there consumed (R106, R108, R110; log 14). -/
def nextOpcode (s : State) : Attempt :=
  match decode s.available with
  | .ok (i, _) => .done (exec i s)
  | .error .opMissing => if s.exhausted then raised .truncated .opcode 0 s else .hold
  | .error (.operandMissing op) =>
    if s.exhausted then raised .truncated .operand op (s.consume s.available.length) else .hold

/-- NEXT (R106). -/
def nextPixel (s : State) : Attempt :=
  if s.runcnt = 0 then nextOpcode s else .done (continueRun s)

/-- A command tried on the bytes that are there. -/
def attempt (c : Command) (s : State) : Attempt :=
  match c with
  | .reset => .done (.next s.restart)
  | .parseHeader => parseHeader s
  | .next => nextPixel s

/-- A command the host issues and PHASE admits: it ends, or it holds. -/
def perform (c : Command) (s : State) : Answer :=
  match attempt c s with
  | .done a => a
  | .hold => .next (s.setHeld (some c))

/-- PARSE_HEADER or NEXT, issued: refused in a phase that does not admit it, without meaning after a refused command of
the same session, else performed (R166; log 6). -/
def issueWork (c : Command) (s : State) : Answer :=
  if admits s.phase c = false then .next s.markRefused
  else if s.refused then .refused (.afterRefused c)
  else perform c s

/-- A command, issued. RESET is always admitted and aborts a held command (R173, R175); another command while one holds has
no move (R171; log 7). -/
def issue (c : Command) (s : State) : Answer :=
  match c, s.held with
  | .reset, _ => .next s.restart
  | .parseHeader, none => issueWork .parseHeader s
  | .next, none => issueWork .next s
  | .parseHeader, some _ => .refused (.concurrentCommand .parseHeader)
  | .next, some _ => .refused (.concurrentCommand .next)

/-- The host reads a field of the status view (R37). -/
def readView (f : ViewField) (s : State) : Answer :=
  match s.viewValue f with
  | .error e => .fault e
  | .ok v => .next (s.respond (.view v))

/-- What an input from outside does. -/
def receive (i : Input) (s : State) : Answer :=
  match i with
  | .command c => issue c s
  | .byte v => .next (s.deliver v)
  | .eos => .next s.exhaust
  | .read f => readView f s

/-- The next input is received; where there is none, the block stays as it is, idle or held (R163, R172, R179). -/
def takeInput (s : State) : Answer :=
  match s.inputs with
  | [] => .next s
  | i :: rest => receive i (s.withInputs rest)

/-- One step: a held command ends once the bytes it needs are there; else the next input is received (R50; log 3, 4). -/
def advance (s : State) : Answer :=
  match s.held with
  | none => takeInput s
  | some c =>
    match attempt c (s.setHeld none) with
    | .done a => a
    | .hold => takeInput s

/-- The 14 bytes of `.header w, h, ch, cs` (R86). -/
def headerBytes (w h : U32) (c cs : Byte) : List Byte :=
  magic ++
    [w.extractLsb' 24 8, w.extractLsb' 16 8, w.extractLsb' 8 8, w.extractLsb' 0 8,
     h.extractLsb' 24 8, h.extractLsb' 16 8, h.extractLsb' 8 8, h.extractLsb' 0 8, c, cs]

/-- The session a PARSE_HEADER of a 2 x 1 RGBA image leaves, where the machine is not already decoding pixels (log 13). -/
def State.inPixels (s : State) : State :=
  if s.phase = .pixels then s
  else
    { State.reset with
      source := headerBytes 2 1 4 0
      cursor := Config.headerLength
      width := some 2
      height := some 1
      channels := some 4
      colorspace := some 0
      total := some 2
      phase := .pixels
      inputs := s.inputs
      responses := s.responses }

/-- The bytes placed at CURSOR in the byte source, and a NEXT issued with no run owed (log 13). -/
def State.place (bs : List Byte) (s : State) : State :=
  { s with
    source := s.source.take s.cursor ++ List.replicate (s.cursor - s.source.length) 0 ++ bs
    runcnt := 0
    refused := false
    held := none
    inputs := .command .next :: s.inputs }

end Sys2Proof.Machine
end

