-- ==== Sys2Proof/Machine/Step.lean ====
section
/-! DEFINITION. One step of the machine, and the placing of one instruction where the next step fetches it. -/

namespace Sys2Proof.Machine

/-- One step. -/
def step (s : State) : Host.Outcome State Fault Refusal := advance s

/-- The state in which the very next step fetches and runs the instruction of an opcode-table word (log 13, 15). -/
def State.withFetchWord (s : State) (nbits w : Nat) : State := s.inPixels.place (tableBytes nbits w)

end Sys2Proof.Machine
end

