-- ==== Sys2Proof/Machine/Assembler.lean ====
section
/-! DEFINITION. The spec's assembler syntax (30_encoding.md R85-R87): operands are the values an opcode means, deltas signed
and run length biased by one. -/

namespace Sys2Proof.Machine

/-- One line of assembly (R85). -/
inductive AsmLine where
  | index (i : Int)
  | diff (dr dg db : Int)
  | luma (dg drdg dbdg : Int)
  | run (len : Int)
  | rgb (r g b : Int)
  | rgba (r g b a : Int)
  deriving DecidableEq, Repr

/-- `v` lies in `lo..hi`. -/
def inRange (lo hi v : Int) : Bool := decide (lo ≤ v ∧ v ≤ hi)

/-- The instruction of a line; an operand outside its range has no encoding (R85). -/
def assemble : AsmLine → Option Instr
  | .index i => if inRange 0 63 i then some (.index (.ofInt 6 i)) else none
  | .diff dr dg db =>
    if inRange (-2) 1 dr && inRange (-2) 1 dg && inRange (-2) 1 db then
      some (.diff (.ofInt 2 (dr + 2)) (.ofInt 2 (dg + 2)) (.ofInt 2 (db + 2)))
    else none
  | .luma dg drdg dbdg =>
    if inRange (-32) 31 dg && inRange (-8) 7 drdg && inRange (-8) 7 dbdg then
      some (.luma (.ofInt 6 (dg + 32)) (.ofInt 4 (drdg + 8)) (.ofInt 4 (dbdg + 8)))
    else none
  | .run len => if inRange 1 62 len then some (.run (.ofInt 6 (len - 1))) else none
  | .rgb r g b =>
    if inRange 0 255 r && inRange 0 255 g && inRange 0 255 b then
      some (.rgb (.ofInt 8 r) (.ofInt 8 g) (.ofInt 8 b))
    else none
  | .rgba r g b a =>
    if inRange 0 255 r && inRange 0 255 g && inRange 0 255 b && inRange 0 255 a then
      some (.rgba (.ofInt 8 r) (.ofInt 8 g) (.ofInt 8 b) (.ofInt 8 a))
    else none

/-- The line of an instruction (R87). -/
def disassemble : Instr → AsmLine
  | .index i => .index i.toNat
  | .diff ur ug ub => .diff (diffDelta ur) (diffDelta ug) (diffDelta ub)
  | .luma ugreen urg ubg =>
    .luma (lumaGreen ugreen) (lumaRelative ugreen urg - lumaGreen ugreen) (lumaRelative ugreen ubg - lumaGreen ugreen)
  | .run n => .run ((n.toNat : Int) + 1)
  | .rgb r g b => .rgb r.toNat g.toNat b.toNat
  | .rgba r g b a => .rgba r.toNat g.toNat b.toNat a.toNat

end Sys2Proof.Machine
end

