-- ==== Sys2Proof/Machine/Pseudocode.lean ====
section
/-! DEFINITION. NEXT written as 41_pixel_step.md R106 writes it: one `InByte()` after the other, then the handler of
42_pixel_opcodes.md. The machine runs Machine/Commands.lean's `nextPixel`, which decodes the bytes that are there at once
(log 14); an obligation says that the two agree. -/

namespace Sys2Proof.Machine

/-- The lines of R106 from `PREV <- p` on, every byte of the opcode having been consumed. -/
def ruleEmit (p : Pixel) (s : State) : Attempt := .done (completePixel 0 p s)

/-- The handlers, the op byte having been read (R126, R129, R132, R135, R138, R141). Each reads its data bytes first. -/
def ruleHandler (op : Byte) (s : State) : Attempt :=
  match kindOf op with
  | .index => ruleEmit (s.cacheGet (op.extractLsb' 0 6)) s
  | .diff => ruleEmit (diffPixel (op.extractLsb' 4 2) (op.extractLsb' 2 2) (op.extractLsb' 0 2) s.prev) s
  | .luma =>
    (inByte s).resolve (raised .truncated .operand op) fun b2 t =>
      ruleEmit (lumaPixel (op.extractLsb' 0 6) (b2.extractLsb' 4 4) (b2.extractLsb' 0 4) t.prev) t
  | .rgb =>
    (inBytes 3 s).resolve (raised .truncated .operand op) fun d t =>
      ruleEmit { r := d.getD 0 0, g := d.getD 1 0, b := d.getD 2 0, a := t.prev.a } t
  | .rgba =>
    (inBytes 4 s).resolve (raised .truncated .operand op) fun d t =>
      ruleEmit { r := d.getD 0 0, g := d.getD 1 0, b := d.getD 2 0, a := d.getD 3 0 } t
  | .run => ruleEmit s.prev (s.setRuncnt ((op.extractLsb' 0 6).setWidth 32))

/-- NEXT (R106). -/
def ruleNext (s : State) : Attempt :=
  if 0 < s.runcnt.toNat then ruleEmit s.prev (s.setRuncnt (s.runcnt - 1))
  else (inByte s).resolve (raised .truncated .opcode 0) ruleHandler

end Sys2Proof.Machine
end

