-- ==== Sys2Proof/Safety.lean ====
section
/-! DEFINITION. What a safe state is: the invariants the spec lists (10_state.md R42), those the model adds to them so that
every step keeps them, and the words in which the obligations speak of a step's inputs. -/

namespace Sys2Proof.Machine

/-- The six invariants of R42. -/
structure SpecInvariant (s : State) : Prop where
  /-- R42.1 -/
  runcnt_le : s.runcnt.toNat ≤ 61
  /-- R42.2 -/
  header_known : s.phase = .pixels ∨ s.phase = .done →
    ∃ w h c cs, s.width = some w ∧ s.height = some h ∧ s.channels = some c ∧ s.colorspace = some cs ∧
      (c = 3 ∨ c = 4) ∧ (cs = 0 ∨ cs = 1) ∧ s.total = some (pixelCount w h) ∧ 14 ≤ s.cursor
  /-- R42.3, the first half -/
  pixels_left : s.phase = .pixels → ∀ t, s.total = some t → s.emitted.toNat < t.toNat
  /-- R42.3, the second half -/
  all_emitted : s.phase = .done → s.total = some s.emitted
  /-- R42.4 -/
  header_fresh : s.phase = .header →
    s.emitted = 0 ∧ s.cursor = 0 ∧ s.prev = State.reset.prev ∧ s.runcnt = 0 ∧ s.cache = State.reset.cache
  /-- R42.5 -/
  error_iff : s.errcode ≠ .none ↔ s.phase = .error
  /-- R42.6 -/
  emitted_le : ∀ t, s.total = some t → s.emitted.toNat ≤ t.toNat

/-- R42 with what the model adds. -/
structure Invariant (s : State) : Prop extends SpecInvariant s where
  /-- The cursor never passes what the byte source has answered (R46, R49). -/
  cursor_le : s.cursor ≤ s.source.length
  /-- A run is owed only after a pixel was emitted (R23, R141). -/
  run_after_pixel : s.runcnt ≠ 0 → s.emitted ≠ 0
  /-- After a pixel was emitted, PREV is in the cache at its hash (R43). -/
  prev_cached : s.emitted ≠ 0 → s.cacheGet (pixelHash s.prev) = s.prev
  /-- The header registers have no value before PARSE_HEADER (R26-R29, R32). -/
  header_unknown : s.phase = .header →
    s.width = none ∧ s.height = none ∧ s.channels = none ∧ s.colorspace = none ∧ s.total = none
  /-- ERRINFO is written only by `raise` (R35). -/
  no_error_info : s.errcode = .none → s.errinfo = ErrInfo.reset
  /-- A held command is PARSE_HEADER or NEXT, PHASE admits it, and no command was refused before it (R50, R166). -/
  held_admitted : ∀ c, s.held = some c → c ≠ .reset ∧ admits s.phase c = true ∧ s.refused = false
  /-- In a session whose header is parsed EMITTED is the number of pixels given to the host since that Header (R32, R62). -/
  session_counted : s.total ≠ none → (sessionPixels s.responses).length = s.emitted.toNat

/-- `s` after `n` more bytes were consumed and an error was raised: CURSOR, PHASE, ERRCODE and ERRINFO, and the error as the
response (R147, R156, R157). -/
def failedAt (s : State) (n : Nat) (code : ErrCode) (stage : Stage) (value : Byte) : State :=
  { s with
    cursor := s.cursor + n
    phase := .error
    errcode := code
    errinfo := { stage := stage, value := value, offset := s.cursor + n, pixel := s.emitted }
    responses := s.responses ++
      [.error code { stage := stage, value := value, offset := s.cursor + n, pixel := s.emitted }] }

/-- Nothing the block reports or counts has changed but what every emitted pixel changes: no status but PHASE (R38). -/
def sameStatus (s t : State) : Prop :=
  t.errcode = s.errcode ∧ t.errinfo = s.errinfo ∧ t.refused = s.refused

/-- The next input is the host's RESET. -/
abbrev receivesReset (s : State) : Prop := ∃ rest, s.inputs = .command .reset :: rest

/-- Outcome of `k` steps, each answering a next state. -/
abbrev runsTo (k : Nat) (s t : State) : Prop := Host.Core.run Sys2Proof.core k s = .next t

end Sys2Proof.Machine
end

