-- ==== Sys2Proof/Certificates/Slice0/Obligations.lean ====
section
/-! DEFINITION. The statements for the provers. Each docstring names the rule it formalises; one that rests on a decision or
an inference the spec marks as its own, or on a log entry of the model, says so. Every statement about `step` speaks of the
list of inputs, which is the model's way to say what the host and the byte source do (log 1, 3); `magic` is the four bytes of
"qoif", and no statement rests on their code points (log 16). -/

open Sys2Proof Sys2Proof.Machine

/-! ## Encoding -/

/-- Decoding what the encoder writes gives the instruction back, for every well-formed instruction and whatever follows it
(inference the spec marks as its own: R87, "every op byte disassembles to exactly one line"). -/
def Obligations.DecodeOfEncodeIsIdentity : Prop :=
  ∀ (i : Instr) (rest : List Byte), i.wellFormed = true → decode (encode i ++ rest) = .ok (i, rest)

/-- Each list of bytes has one reading: bytes that decode are the encoding of the instruction they decode to, which is well
formed (inference the spec marks as its own: R81, R87). -/
def Obligations.DecodedBytesAreItsEncoding : Prop :=
  ∀ (bs rest : List Byte) (i : Instr), decode bs = .ok (i, rest) → i.wellFormed = true ∧ bs = encode i ++ rest

/-- R80: 0xFE and 0xFF are tested before the pattern `11xxxxxx`, then op[7:6] selects; and what is decoded is of that kind. -/
def Obligations.OpByteSelectsItsKind : Prop :=
  ∀ (op : Byte),
    (op = 0xFE → kindOf op = .rgb) ∧ (op = 0xFF → kindOf op = .rgba) ∧
    (op ≠ 0xFE → op ≠ 0xFF →
      (op.extractLsb' 6 2 = 0b00 → kindOf op = .index) ∧ (op.extractLsb' 6 2 = 0b01 → kindOf op = .diff) ∧
      (op.extractLsb' 6 2 = 0b10 → kindOf op = .luma) ∧ (op.extractLsb' 6 2 = 0b11 → kindOf op = .run)) ∧
    ∀ (rest tail : List Byte) (i : Instr), decode (op :: rest) = .ok (i, tail) →
      kindOf op =
        match i with
        | .index _ => .index
        | .diff _ _ _ => .diff
        | .luma _ _ _ => .luma
        | .run _ => .run
        | .rgb _ _ _ => .rgb
        | .rgba _ _ _ _ => .rgba

/-- R82: every op byte and every data byte has a meaning; the only way an opcode fails to decode is that the stream ends
before its last byte. -/
def Obligations.OnlyMissingBytesFailToDecode : Prop :=
  decode [] = .error .opMissing ∧
  ∀ (op : Byte) (data : List Byte),
    (kindLength (kindOf op) ≤ data.length + 1 →
      ∃ i, i.wellFormed = true ∧ decode (op :: data) = .ok (i, data.drop (kindLength (kindOf op) - 1))) ∧
    (data.length + 1 < kindLength (kindOf op) → decode (op :: data) = .error (.operandMissing op))

/-- Words written out from R73-R79: `QOI_OP_INDEX 53`, `QOI_OP_DIFF -1,-2,1`, `QOI_OP_LUMA -12,-8,7`, `QOI_OP_RUN 62`,
`QOI_OP_RGB`, `QOI_OP_RGBA` (95_test_vectors.md P3, U3, A1); and the LUMA again as a word of the opcode table, whose byte
order is the model's choice (log 15). -/
def Obligations.WordsWrittenFromTheSpecDecode : Prop :=
  decode [0b00110101] = .ok (.index 53, []) ∧
  decode [0b01010011] = .ok (.diff 1 0 3, []) ∧
  decode [0b10010100, 0b00001111] = .ok (.luma 20 0 15, []) ∧
  decode [0b11111101] = .ok (.run 61, []) ∧
  decode [0xFE, 0x16, 0x00, 0x07] = .ok (.rgb 0x16 0x00 0x07, []) ∧
  decode [0xFF, 0x11, 0x22, 0x33, 0x44] = .ok (.rgba 0x11 0x22 0x33 0x44, []) ∧
  decodeTableWord 16 0x0F94 = some (.luma 20 0 15)

/-- An assembler line and the instruction it stands for determine each other, and an operand outside its range has no
encoding (decision D17 of the spec: R85; inference the spec marks as its own: R87). -/
def Obligations.AssemblyAndInstructionsAgree : Prop :=
  (∀ i : Instr, i.wellFormed = true → assemble (disassemble i) = some i) ∧
  (∀ (l : AsmLine) (i : Instr), assemble l = some i → i.wellFormed = true ∧ disassemble i = l)

/-! ## The byte source -/

/-- When a byte is needed the source answers BYTE (returned, CURSOR advances), EOS (nothing changes), or not yet; then a
command holds with no state change but its being held, stays held with no timeout, and only the byte source's answer or the
host's RESET ends that (R50). The model's inferences: CURSOR stays where it was before the command (log 3) and a step with no
input left changes nothing (log 4); that RESET ends a hold is decision D18 of the spec (R175). -/
def Obligations.HoldUntilTheSourceAnswers : Prop :=
  (∀ (s : State) (v : Byte), s.source[s.cursor]? = some v → inByte s = .got v { s with cursor := s.cursor + 1 }) ∧
  (∀ s : State, s.source[s.cursor]? = none → s.exhausted = true → inByte s = .eos s) ∧
  (∀ s : State, s.source[s.cursor]? = none → s.exhausted = false → inByte s = .hold) ∧
  (∀ (s : State) (c : Command) (rest : List Input), c ≠ .reset → s.held = none → s.refused = false →
    admits s.phase c = true → s.inputs = .command c :: rest → attempt c { s with inputs := rest } = .hold →
    step s = .next { s with inputs := rest, held := some c }) ∧
  (∀ (s : State) (c : Command), s.held = some c → attempt c { s with held := none } = .hold →
    (s.inputs = [] → step s = .next s) ∧ ∀ t, step s = .next t → t.held = some c ∨ receivesReset s)

/-- Exhaustion is final in a session (decision D3 of the spec: R51): a later byte is not taken. -/
def Obligations.ExhaustionIsFinal : Prop :=
  ∀ s t : State, s.exhausted = true → step s = .next t → s.held ≠ some .reset →
    (t.exhausted = true ∧ t.source = s.source) ∨ receivesReset s

/-- The block never writes the byte source (inference the spec marks as its own: R48): its bytes change only by the source's
own next answer, or by the new stream that RESET starts (log 5). -/
def Obligations.StreamIsNeverWritten : Prop :=
  ∀ s t : State, step s = .next t → s.held ≠ some .reset →
    t.source = s.source ∨ (∃ v rest, s.inputs = .byte v :: rest ∧ t.source = s.source ++ [v]) ∨ receivesReset s

/-- R49: the byte read is the one at CURSOR, CURSOR advances past it, and it never decreases while the session lasts. -/
def Obligations.StreamIsReadInOrder : Prop :=
  (∀ (s t : State) (v : Byte), inByte s = .got v t → s.source[s.cursor]? = some v ∧ t = { s with cursor := s.cursor + 1 }) ∧
  (∀ s t : State, step s = .next t → s.held ≠ some .reset → s.cursor ≤ t.cursor ∨ receivesReset s)

/-- R57: PARSE_HEADER reads 14 bytes on success; NEXT reads none (run continuation) or its opcode's length. -/
def Obligations.BytesReadPerCommand : Prop :=
  ∀ s t : State,
    (s.phase = .header → parseHeader s = .done (.next t) → t.phase ≠ .error → t.cursor = s.cursor + 14) ∧
    (s.phase = .pixels → nextPixel s = .done (.next t) → t.phase ≠ .error →
      (s.runcnt ≠ 0 ∧ t.cursor = s.cursor) ∨
      (s.runcnt = 0 ∧ ∃ i rest, decode s.available = .ok (i, rest) ∧
        t.cursor = s.cursor +
          match i with
          | .index _ => 1
          | .diff _ _ _ => 1
          | .run _ => 1
          | .luma _ _ _ => 2
          | .rgb _ _ _ => 4
          | .rgba _ _ _ _ => 5))

/-- A command that ended needed nothing beyond the bytes it had: with more bytes behind them, or the end of the source known,
it ends the same (inference the spec marks as its own: R119, "Only the timing of byte-source answers is free, and it changes
no value"). -/
def Obligations.LaterBytesChangeNoResult : Prop :=
  ∀ (s t : State) (c : Command) (more : List Byte) (ended : Bool), c ≠ .reset → s.exhausted = false →
    attempt c s = .done (.next t) →
    attempt c { s with source := s.source ++ more, exhausted := ended } =
      .done (.next { t with source := t.source ++ more, exhausted := ended })

/-! ## PARSE_HEADER -/

/-- R68, R69, R93, R94: bytes 4..7 are WIDTH and bytes 8..11 are HEIGHT, big-endian, unsigned. -/
def Obligations.HeaderStoresWidthAndHeight : Prop :=
  ∀ (s : State) (w0 w1 w2 w3 h0 h1 h2 h3 c cs : Byte) (rest : List Byte),
    s.available = magic ++ [w0, w1, w2, w3, h0, h1, h2, h3, c, cs] ++ rest →
    (c = 3 ∨ c = 4) → (cs = 0 ∨ cs = 1) →
    ∃ t w h, parseHeader s = .done (.next t) ∧ t.width = some w ∧ t.height = some h ∧
      w.toNat = w0.toNat * 2 ^ 24 + w1.toNat * 2 ^ 16 + w2.toNat * 2 ^ 8 + w3.toNat ∧
      h.toNat = h0.toNat * 2 ^ 24 + h1.toNat * 2 ^ 16 + h2.toNat * 2 ^ 8 + h3.toNat

/-- Every legal header is returned exactly as encoded, TOTAL is the exact product, and PHASE is DONE for an empty image, else
PIXELS (decisions D4, D14 of the spec: R98, R100; inference the spec marks as its own: R103). -/
def Obligations.HeaderRoundTrip : Prop :=
  ∀ (s : State) (w h : U32) (c cs : Byte) (rest : List Byte), s.available = headerBytes w h c cs ++ rest →
    (c = 3 ∨ c = 4) → (cs = 0 ∨ cs = 1) →
    ∃ t n, parseHeader s = .done (.next t) ∧ t.width = some w ∧ t.height = some h ∧ t.channels = some c ∧
      t.colorspace = some cs ∧ t.total = some n ∧ n.toNat = w.toNat * h.toNat ∧
      t.phase = (if w.toNat * h.toNat = 0 then .done else .pixels) ∧ t.cursor = s.cursor + 14 ∧
      t.responses = s.responses ++ [.header w h c cs]

/-- R148: a bad or cut magic is FormatError, STAGE MAGIC, VALUE 0, OFFSET min(4, len(S)), PIXEL 0; NEXT never raises it. -/
def Obligations.BadMagicIsFormatError : Prop :=
  (∀ s : State, s.cursor = 0 → s.emitted = 0 → (4 ≤ s.source.length ∨ s.exhausted = true) →
    s.source.take 4 ≠ magic →
    parseHeader s = .done (.next (failedAt s (min 4 s.source.length) .format .magic 0)) ∧
    (failedAt s (min 4 s.source.length) .format .magic 0).errinfo =
      { stage := .magic, value := 0, offset := min 4 s.source.length, pixel := 0 }) ∧
  (∀ s t : State, nextPixel s = .done (.next t) → s.errcode ≠ .format → t.errcode ≠ .format)

/-- R149: with a good magic and all 14 bytes there, a channels byte other than 3 and 4 is UnsupportedFormatError, STAGE
CHANNELS, VALUE the byte, OFFSET 14, PIXEL 0; NEXT never raises it, and pixel decode is never entered. -/
def Obligations.BadChannelsIsUnsupported : Prop :=
  (∀ (s : State) (w h : U32) (c cs : Byte) (rest : List Byte), s.cursor = 0 → s.emitted = 0 →
    s.source = headerBytes w h c cs ++ rest → c ≠ 3 → c ≠ 4 →
    ∃ t, parseHeader s = .done (.next t) ∧ t = failedAt s 14 .unsupported .channels c ∧
      t.errinfo = { stage := .channels, value := c, offset := 14, pixel := 0 } ∧ t.phase = .error) ∧
  (∀ s t : State, nextPixel s = .done (.next t) → s.errcode ≠ .unsupported → t.errcode ≠ .unsupported)

/-- R150: with a legal channels byte, a colour-space byte other than 0 and 1 is UnsupportedFormatError, STAGE COLORSPACE,
VALUE the byte, OFFSET 14, PIXEL 0; NEXT never raises it. -/
def Obligations.BadColorspaceIsUnsupported : Prop :=
  (∀ (s : State) (w h : U32) (c cs : Byte) (rest : List Byte), s.cursor = 0 → s.emitted = 0 →
    s.source = headerBytes w h c cs ++ rest → (c = 3 ∨ c = 4) → cs ≠ 0 → cs ≠ 1 →
    ∃ t, parseHeader s = .done (.next t) ∧ t = failedAt s 14 .unsupported .colorspace cs ∧
      t.errinfo = { stage := .colorspace, value := cs, offset := 14, pixel := 0 }) ∧
  (∀ s t : State, nextPixel s = .done (.next t) → s.errcode ≠ .unsupported → t.errcode ≠ .unsupported)

/-- A good magic with the source ended before byte 13 is TruncatedStreamError, STAGE HEADER, with every byte consumed
(decision D6 of the spec: R95, R152). -/
def Obligations.CutHeaderIsTruncated : Prop :=
  ∀ (s : State), s.cursor = 0 → s.exhausted = true → s.source.take 4 = magic →
    s.source.length < 14 →
    parseHeader s = .done (.next (failedAt s s.source.length .truncated .header 0))

/-- PARSE_HEADER leaves PREV, RUNCNT, CACHE, EMITTED and REFUSED, and the byte source, as they are; on a failure it leaves
the header registers too (R101; decision D15 of the spec: R98, R151). -/
def Obligations.HeaderFrame : Prop :=
  ∀ s t : State, parseHeader s = .done (.next t) →
    t.prev = s.prev ∧ t.runcnt = s.runcnt ∧ t.cache = s.cache ∧ t.emitted = s.emitted ∧ t.refused = s.refused ∧
    t.source = s.source ∧ t.exhausted = s.exhausted ∧ t.inputs = s.inputs ∧ t.held = s.held ∧
    (t.phase = .error → t.width = s.width ∧ t.height = s.height ∧ t.channels = s.channels ∧
      t.colorspace = s.colorspace ∧ t.total = s.total) ∧
    (t.phase ≠ .error → t.errcode = s.errcode ∧ t.errinfo = s.errinfo)

/-! ## The pixel opcodes: what each does, with the state it completes in -/

/-- R126: INDEX, `00iiiiii`: PREV is the whole entry `cache[i]`; no status, RUNCNT kept, no error. -/
def Obligations.IndexLoadsTheCacheEntry : Prop :=
  ∀ (i : BitVec 6) (s : State) (rest : List Byte),
    decode (((0b00#2 ++ i : BitVec 8)) :: rest) = .ok (.index i, rest) ∧
    ∃ t, exec (.index i) s = .next t ∧ t.prev = s.cacheGet i ∧ t.runcnt = s.runcnt ∧ sameStatus s t

/-- R129: DIFF, `01rrggbb`: each field minus 2 is added to its channel of PREV modulo 256; alpha kept; no status. -/
def Obligations.DiffAddsSmallDeltas : Prop :=
  ∀ (ur ug ub : BitVec 2) (s : State) (rest : List Byte),
    decode (((0b01#2 ++ ur ++ ug ++ ub : BitVec 8)) :: rest) = .ok (.diff ur ug ub, rest) ∧
    ∃ t, exec (.diff ur ug ub) s = .next t ∧
      (t.prev.r.toNat : Int) = ((s.prev.r.toNat : Int) + ((ur.toNat : Int) - 2)) % 256 ∧
      (t.prev.g.toNat : Int) = ((s.prev.g.toNat : Int) + ((ug.toNat : Int) - 2)) % 256 ∧
      (t.prev.b.toNat : Int) = ((s.prev.b.toNat : Int) + ((ub.toNat : Int) - 2)) % 256 ∧
      t.prev.a = s.prev.a ∧ t.runcnt = s.runcnt ∧ sameStatus s t

/-- R132: LUMA, `10gggggg rrrrbbbb`: `dg = ugreen - 32`, `dr = urg + dg - 8`, `db = ubg + dg - 8`, added modulo 256; alpha
kept; no status. With the stream ended after `op`: TruncatedStreamError STAGE OPERAND, and nothing but the status changes
(and the op byte is consumed). -/
def Obligations.LumaAddsGreenRelativeDeltas : Prop :=
  (∀ (ugreen : BitVec 6) (urg ubg : BitVec 4) (s : State) (rest : List Byte),
    decode (((0b10#2 ++ ugreen : BitVec 8)) :: ((urg ++ ubg : BitVec 8)) :: rest) = .ok (.luma ugreen urg ubg, rest) ∧
    ∃ t, exec (.luma ugreen urg ubg) s = .next t ∧
      (t.prev.r.toNat : Int) =
        ((s.prev.r.toNat : Int) + ((urg.toNat : Int) + ((ugreen.toNat : Int) - 32) - 8)) % 256 ∧
      (t.prev.g.toNat : Int) = ((s.prev.g.toNat : Int) + ((ugreen.toNat : Int) - 32)) % 256 ∧
      (t.prev.b.toNat : Int) =
        ((s.prev.b.toNat : Int) + ((ubg.toNat : Int) + ((ugreen.toNat : Int) - 32) - 8)) % 256 ∧
      t.prev.a = s.prev.a ∧ t.runcnt = s.runcnt ∧ sameStatus s t) ∧
  (∀ (ugreen : BitVec 6) (s : State), s.runcnt = 0 → s.exhausted = true →
    s.available = [(0b10#2 ++ ugreen : BitVec 8)] →
    nextPixel s = .done (.next (failedAt s 1 .truncated .operand (0b10#2 ++ ugreen))))

/-- R135: RGB, `0xFE r g b`: the three data bytes; alpha kept; no status. With the stream ended within them:
TruncatedStreamError STAGE OPERAND, VALUE 0xFE. -/
def Obligations.RgbReplacesColours : Prop :=
  (∀ (r g b : Byte) (s : State) (rest : List Byte),
    decode (0xFE :: r :: g :: b :: rest) = .ok (.rgb r g b, rest) ∧
    ∃ t, exec (.rgb r g b) s = .next t ∧ t.prev = { r := r, g := g, b := b, a := s.prev.a } ∧
      t.runcnt = s.runcnt ∧ sameStatus s t) ∧
  (∀ (data : List Byte) (s : State), s.runcnt = 0 → s.exhausted = true → s.available = 0xFE :: data →
    data.length < 3 → nextPixel s = .done (.next (failedAt s (1 + data.length) .truncated .operand 0xFE)))

/-- R138: RGBA, `0xFF r g b a`: the four data bytes; no status. With the stream ended within them: TruncatedStreamError STAGE
OPERAND, VALUE 0xFF. -/
def Obligations.RgbaReplacesAllChannels : Prop :=
  (∀ (r g b a : Byte) (s : State) (rest : List Byte),
    decode (0xFF :: r :: g :: b :: a :: rest) = .ok (.rgba r g b a, rest) ∧
    ∃ t, exec (.rgba r g b a) s = .next t ∧ t.prev = { r := r, g := g, b := b, a := a } ∧
      t.runcnt = s.runcnt ∧ sameStatus s t) ∧
  (∀ (data : List Byte) (s : State), s.runcnt = 0 → s.exhausted = true → s.available = 0xFF :: data →
    data.length < 4 → nextPixel s = .done (.next (failedAt s (1 + data.length) .truncated .operand 0xFF)))

/-- RUN by itself (R144's row, an inference the spec marks as its own): RUNCNT is `n`, PREV kept, no status. For `n` 62 and
63, which no opcode has, it is the model's choice (log 17). -/
def Obligations.RunSetsTheRunCount : Prop :=
  ∀ (n : BitVec 6) (s : State),
    ∃ t, exec (.run n) s = .next t ∧ t.runcnt.toNat = n.toNat ∧ t.prev = s.prev ∧ sameStatus s t

/-- R141: RUN, op in 0xC0..0xFD: RUNCNT is `n` after the opcode's own pixel, one byte is read, and that pixel and the `n`
run continuations after it, which read no byte, are all PREV: `n + 1` identical pixels. -/
def Obligations.RunEmitsItsWholeLength : Prop :=
  ∀ (n : BitVec 6) (s : State) (total : U64) (tail : List Byte) (rest : List Input), n.toNat ≤ 61 →
    s.phase = .pixels → s.refused = false → s.held = none → s.runcnt = 0 → s.total = some total →
    s.emitted.toNat + n.toNat + 1 ≤ total.toNat → s.available = ((0b11#2 ++ n : BitVec 8)) :: tail →
    s.inputs = List.replicate (n.toNat + 1) (.command .next) ++ rest →
    (∃ t, step s = .next t ∧ t.runcnt.toNat = n.toNat ∧ t.cursor = s.cursor + 1 ∧ sameStatus s t) ∧
    ∃ t, runsTo (n.toNat + 1) s t ∧ t.prev = s.prev ∧ t.runcnt = 0 ∧ t.cursor = s.cursor + 1 ∧ t.inputs = rest ∧
      t.responses = s.responses ++ List.replicate (n.toNat + 1) (.pixel s.prev) ∧ sameStatus s t

/-- While a run is owed NEXT reads no byte, counts the run down, leaves PREV, updates the cache and emits PREV; it ends in
that state whether or not the source is exhausted (R107; that it cannot raise is an inference the spec marks as its own). -/
def Obligations.RunContinuationReadsNoByte : Prop :=
  ∀ s : State, s.runcnt ≠ 0 →
    ∃ t, nextPixel s = .done (.next t) ∧ t.runcnt.toNat = s.runcnt.toNat - 1 ∧ t.cursor = s.cursor ∧
      t.prev = s.prev ∧ (∀ j, t.cacheGet j = if j = pixelHash s.prev then s.prev else s.cacheGet j) ∧
      t.emitted = s.emitted + 1 ∧ t.responses = s.responses ++ [.pixel s.prev] ∧ sameStatus s t

/-- Every delta is added modulo 256 in its own 8-bit lane; no opcode writes a flag; alpha is carried by DIFF, LUMA and RGB and
replaced by INDEX and RGBA (R125), and carried by RUN (R141; R144, an inference the spec marks as its own). RUN with `n` 62
and 63, which no opcode has, is the model's choice (log 17). -/
def Obligations.ChannelArithmeticWraps : Prop :=
  (∀ (old : Byte) (d : Int), ((addDelta old d).toNat : Int) = ((old.toNat : Int) + d) % 256) ∧
  (∀ s : State,
    (∀ ur ug ub, ∃ t, exec (.diff ur ug ub) s = .next t ∧ sameStatus s t ∧
      t.prev = { r := addDelta s.prev.r (diffDelta ur), g := addDelta s.prev.g (diffDelta ug),
                 b := addDelta s.prev.b (diffDelta ub), a := s.prev.a }) ∧
    (∀ ugreen urg ubg, ∃ t, exec (.luma ugreen urg ubg) s = .next t ∧ sameStatus s t ∧
      t.prev = { r := addDelta s.prev.r (lumaRelative ugreen urg), g := addDelta s.prev.g (lumaGreen ugreen),
                 b := addDelta s.prev.b (lumaRelative ugreen ubg), a := s.prev.a }) ∧
    (∀ r g b, ∃ t, exec (.rgb r g b) s = .next t ∧ sameStatus s t ∧ t.prev.a = s.prev.a) ∧
    (∀ i, ∃ t, exec (.index i) s = .next t ∧ sameStatus s t ∧ t.prev.a = (s.cacheGet i).a) ∧
    (∀ r g b a, ∃ t, exec (.rgba r g b a) s = .next t ∧ sameStatus s t ∧ t.prev.a = a) ∧
    (∀ n, ∃ t, exec (.run n) s = .next t ∧ sameStatus s t ∧ t.prev.a = s.prev.a))

/-- The frame of all six opcodes (inferences the spec marks as its own: R48, R144, R145; and R38, R111, R113, R114): only PREV,
RUNCNT (RUN alone), the one cache entry, CURSOR, EMITTED, PHASE and the responses may change; no byte of the stream does. RUN
with `n` 62 and 63, which no opcode has, is the model's choice (log 17). -/
def Obligations.OpcodeFrame : Prop :=
  ∀ (i : Instr) (s t : State), exec i s = .next t →
    t.width = s.width ∧ t.height = s.height ∧ t.channels = s.channels ∧ t.colorspace = s.colorspace ∧
    t.total = s.total ∧ sameStatus s t ∧ t.source = s.source ∧ t.exhausted = s.exhausted ∧ t.inputs = s.inputs ∧
    t.held = s.held ∧ (t.phase = s.phase ∨ t.phase = .done) ∧ t.emitted = s.emitted + 1 ∧
    (∀ j, j ≠ pixelHash t.prev → t.cacheGet j = s.cacheGet j) ∧
    t.runcnt = (match i with
      | .run n => n.setWidth 32
      | .index _ => s.runcnt
      | .diff _ _ _ => s.runcnt
      | .luma _ _ _ => s.runcnt
      | .rgb _ _ _ => s.runcnt
      | .rgba _ _ _ _ => s.runcnt) ∧
    t.cursor = s.cursor + instrLength i

/-! ## The frame of NEXT -/

/-- R106: NEXT by the decoder is the rule's own pseudocode, byte after byte and line after line, in every state. -/
def Obligations.NextFollowsThePseudocode : Prop :=
  ∀ s : State, nextPixel s = ruleNext s

/-- R111: every NEXT that emits writes `cache[hash(PREV)] <- PREV` with the new PREV and no other entry, whatever the opcode
and in a run continuation; one that raises writes none. -/
def Obligations.EveryPixelUpdatesTheCache : Prop :=
  ∀ s t : State, s.phase = .pixels → nextPixel s = .done (.next t) →
    (t.phase ≠ .error → ∀ j, t.cacheGet j = if j = pixelHash t.prev then t.prev else s.cacheGet j) ∧
    (t.phase = .error → t.cache = s.cache)

/-- R16: the hash is the sum of the channels times 3, 5, 7 and 11, on mathematical integers, modulo 64. -/
def Obligations.HashIsTheWeightedSum : Prop :=
  ∀ p : Pixel,
    (pixelHash p).toNat = (p.r.toNat * 3 + p.g.toNat * 5 + p.b.toNat * 7 + p.a.toNat * 11) % 64 ∧ (pixelHash p).toNat ≤ 63

/-- The sum under the hash is at most 6630, and kept modulo `2^k` for a `k` of at least 6 it gives the same index (inference
the spec marks as its own: R112, "Because 64 divides `2^k` for every `k >= 6`"). -/
def Obligations.HashOfANarrowSumIsTheSame : Prop :=
  ∀ (p : Pixel) (k : Nat), 6 ≤ k →
    p.r.toNat * 3 + p.g.toNat * 5 + p.b.toNat * 7 + p.a.toNat * 11 ≤ 6630 ∧
    ((p.r.toNat * 3 + p.g.toNat * 5 + p.b.toNat * 7 + p.a.toNat * 11) % 2 ^ k) % 64 = (pixelHash p).toNat

/-- R113: NEXT responds with PREV as it stands after the opcode or the run continuation, the value just written into the
cache, and increments EMITTED. -/
def Obligations.NextEmitsPrevious : Prop :=
  ∀ s t : State, s.phase = .pixels → nextPixel s = .done (.next t) → t.phase ≠ .error →
    t.responses = s.responses ++ [.pixel t.prev] ∧ t.cacheGet (pixelHash t.prev) = t.prev ∧ t.emitted = s.emitted + 1

/-- After the emit PHASE is DONE exactly when EMITTED = TOTAL; then the session has given the host exactly WIDTH*HEIGHT pixels
(those since its Header, log 10) and a further NEXT is refused (R114, its pixel count by the invariants of R42, an inference
the spec marks as its own, and the model's additions). -/
def Obligations.ImageEndsAtTotal : Prop :=
  ∀ s t : State, Invariant s → s.phase = .pixels → nextPixel s = .done (.next t) → t.phase ≠ .error →
    (t.phase = .done ↔ t.total = some t.emitted) ∧
    (t.phase = .done →
      (∃ w h, t.width = some w ∧ t.height = some h ∧ t.emitted.toNat = w.toNat * h.toNat ∧
        (sessionPixels t.responses).length = w.toNat * h.toNat) ∧
      ∀ rest, t.held = none → step { t with inputs := .command .next :: rest } =
        .next { t with inputs := rest, refused := true })

/-- R108, R153: with no run owed and the source exhausted where the op byte should be, NEXT raises TruncatedStreamError STAGE
OPCODE with PIXEL = EMITTED and OFFSET = len(S), and changes only PHASE, ERRCODE and ERRINFO; with a run owed it never
raises. -/
def Obligations.MissingOpByteIsTruncated : Prop :=
  (∀ s : State, s.runcnt = 0 → s.exhausted = true → s.cursor = s.source.length →
    nextPixel s = .done (.next (failedAt s 0 .truncated .opcode 0)) ∧
    (failedAt s 0 .truncated .opcode 0).errinfo.offset = s.source.length) ∧
  (∀ s t : State, s.runcnt ≠ 0 → nextPixel s = .done (.next t) → sameStatus s t)

/-- R154: TruncatedStreamError is the only error NEXT raises; within an opcode LUMA, RGB and RGBA raise it at STAGE OPERAND,
VALUE the op byte, OFFSET len(S), PIXEL = EMITTED, where a data byte is missing; INDEX, DIFF and RUN cannot once their op
byte is read. -/
def Obligations.MissingDataByteIsTruncated : Prop :=
  (∀ s t : State, s.phase = .pixels → nextPixel s = .done (.next t) → t.phase = .error → t.errcode = .truncated) ∧
  (∀ (s : State) (op : Byte) (data : List Byte), s.runcnt = 0 → s.exhausted = true → s.available = op :: data →
    ((kindOf op = .luma ∨ kindOf op = .rgb ∨ kindOf op = .rgba) → data.length + 1 < kindLength (kindOf op) →
      nextPixel s = .done (.next (failedAt s (data.length + 1) .truncated .operand op)) ∧
      s.cursor + (data.length + 1) = s.source.length) ∧
    ((kindOf op = .index ∨ kindOf op = .diff ∨ kindOf op = .run) →
      ∃ t, nextPixel s = .done (.next t) ∧ sameStatus s t))

/-- A cut opcode is atomic: PREV, RUNCNT, CACHE, EMITTED and the header are as before, no pixel is emitted, and CURSOR is past
the bytes read; the same holds of every command that raises, PARSE_HEADER too (decision D9 of the spec: R110; inference it
marks as its own: R156). -/
def Obligations.RaisingChangesOnlyTheStatus : Prop :=
  ∀ (c : Command) (s t : State), c ≠ .reset → s.phase ≠ .error → attempt c s = .done (.next t) → t.phase = .error →
    ∃ n code stage value, code ≠ .none ∧ n ≤ s.available.length ∧ t = failedAt s n code stage value

/-- R123: NEXT can fail only by truncation, on no opcode value, delta, index or run length: whenever it ends, it ends in a
next state, which raises only where bytes are missing on an exhausted source. -/
def Obligations.NextFailsOnlyByTruncation : Prop :=
  ∀ (s : State) (a : Host.Outcome State Fault Refusal), s.phase = .pixels →
    nextPixel s = .done a →
    ∃ t, a = .next t ∧ (t.phase = .error →
      s.runcnt = 0 ∧ s.exhausted = true ∧ t.errcode = .truncated ∧
        (s.available = [] ∨ ∃ op data, s.available = op :: data ∧ data.length + 1 < kindLength (kindOf op)))

/-- CHANNELS and COLORSPACE (decisions D10, D11 of the spec: R122) and WIDTH and HEIGHT (inference the spec marks as its own:
R145) take no part in NEXT: with other values there NEXT ends the same. -/
def Obligations.HeaderFieldsTakeNoPartInNext : Prop :=
  ∀ (s t : State) (w h : Option U32) (c cs : Option Byte), nextPixel s = .done (.next t) →
    nextPixel { s with width := w, height := h, channels := c, colorspace := cs } =
      .done (.next { t with width := w, height := h, channels := c, colorspace := cs })

/-- A run continuation never changes the cache (inference the spec marks as its own: R120, by R43). -/
def Obligations.RunContinuationKeepsTheCache : Prop :=
  ∀ s t : State, Invariant s → s.phase = .pixels → s.runcnt ≠ 0 → nextPixel s = .done (.next t) → t.cache = s.cache

/-- INDEX yields the pixel most recently written to its entry (inference the spec marks as its own: R127 (e)): right after a
pixel, INDEX of that pixel's hash gives it back and leaves the cache as it is. -/
def Obligations.IndexYieldsTheLatestPixel : Prop :=
  ∀ s t : State, s.phase = .pixels → nextPixel s = .done (.next t) → t.phase ≠ .error →
    ∃ u, exec (.index (pixelHash t.prev)) t = .next u ∧ u.prev = t.prev ∧ u.cache = t.cache

/-- The pixel a NEXT emits in a state with EMITTED = `k` is pixel `k`, counted from 0, of those the session has given the host
(the pixels since its Header; the responses of earlier sessions are kept, log 10, and are not counted), and its place
(`k mod WIDTH`, `k div WIDTH`) lies in the raster, each `k` at its own: row-major order, from (0, 0) (R62, R118; under the
invariants of R42, an inference the spec marks as its own, and the model's additions). -/
def Obligations.PixelsComeInRowMajorOrder : Prop :=
  ∀ s t : State, Invariant s → s.phase = .pixels → nextPixel s = .done (.next t) → t.phase ≠ .error →
    sessionPixels t.responses = sessionPixels s.responses ++ [t.prev] ∧
    (sessionPixels t.responses)[s.emitted.toNat]? = some t.prev ∧
    (sessionPixels t.responses).length = s.emitted.toNat + 1 ∧
    ∃ w h, s.width = some w ∧ s.height = some h ∧
      (rasterPosition s.emitted.toNat w).1 < w.toNat ∧ (rasterPosition s.emitted.toNat w).2 < h.toNat ∧
      s.emitted.toNat = (rasterPosition s.emitted.toNat w).2 * w.toNat + (rasterPosition s.emitted.toNat w).1

/-! ## Commands, errors, reset -/

/-- When the bytes at CURSOR decode to an instruction and a NEXT is issued and admitted, or held, the step is exec of that
instruction on the state with the NEXT taken off (R106 to R109; the input list is the model's, log 1 and 3). -/
def Obligations.StepRunsTheDecodedInstruction : Prop :=
  ∀ (s : State) (i : Instr) (tail : List Byte), s.runcnt = 0 → decode s.available = .ok (i, tail) →
    (∀ rest, s.held = none → s.phase = .pixels → s.refused = false → s.inputs = .command .next :: rest →
      step s = exec i { s with inputs := rest }) ∧
    (s.held = some .next → step s = exec i { s with held := none })

/-- While a run is owed, a step that takes a NEXT is the run continuation (R107; log 1 and 3). -/
def Obligations.StepContinuesTheRun : Prop :=
  ∀ (s : State), s.runcnt ≠ 0 →
    (∀ rest, s.held = none → s.phase = .pixels → s.refused = false → s.inputs = .command .next :: rest →
      step s = continueRun { s with inputs := rest }) ∧
    (s.held = some .next → step s = continueRun { s with held := none })

/-- A refused command sets REFUSED and changes no other state; it reads no byte and returns nothing (decision D5 of the spec:
R166). -/
def Obligations.RefusedCommandOnlyMarks : Prop :=
  ∀ (s : State) (c : Command) (rest : List Input), s.held = none → s.inputs = .command c :: rest →
    (c = .parseHeader ∧ s.phase ≠ .header ∨ c = .next ∧ s.phase ≠ .pixels) →
    step s = .next { s with inputs := rest, refused := true }

/-- What the model gives no meaning (decisions D5, D20 of the spec: R166, R171; log 6, log 7): a command that PHASE admits
while REFUSED is set, and a PARSE_HEADER or NEXT issued while a command holds. -/
def Obligations.CommandsWithoutMeaningStop : Prop :=
  ∀ (s : State) (c : Command) (rest : List Input), c ≠ .reset → s.inputs = .command c :: rest →
    (s.held = none → admits s.phase c = true → s.refused = true → step s = .refused (.afterRefused c)) ∧
    (∀ d, s.held = some d → attempt d { s with held := none } = .hold → step s = .refused (.concurrentCommand c))

/-- REFUSED is sticky: only RESET clears it (decision D5 of the spec: R36). -/
def Obligations.RefusedIsSticky : Prop :=
  ∀ s t : State, s.refused = true → step s = .next t → s.held ≠ some .reset → t.refused = true ∨ receivesReset s

/-- R158: errors are terminal: in phase ERROR every command except RESET is refused, and PHASE, ERRCODE and ERRINFO stay until
RESET starts a new session. -/
def Obligations.ErrorsAreTerminal : Prop :=
  ∀ s : State, Invariant s → s.phase = .error →
    (∀ t, step s = .next t →
      (t.phase = .error ∧ t.errcode = s.errcode ∧ t.errinfo = s.errinfo ∧ t.prev = s.prev ∧ t.emitted = s.emitted ∧
        t.cursor = s.cursor) ∨ receivesReset s) ∧
    (∀ c rest, c ≠ .reset → s.inputs = .command c :: rest →
      step s = .next { s with inputs := rest, refused := true }) ∧
    (∀ rest, s.inputs = .command .reset :: rest → ∃ t, step s = .next t ∧ t.phase = .header ∧ t.errcode = .none)

/-- R30: WIDTH, HEIGHT, CHANNELS, COLORSPACE and TOTAL are written only by the successful PARSE_HEADER of a session, which
leaves phase HEADER, and cleared only by RESET. -/
def Obligations.HeaderIsImmutableOnceParsed : Prop :=
  ∀ s t : State, Invariant s → step s = .next t →
    (t.width = s.width ∧ t.height = s.height ∧ t.channels = s.channels ∧ t.colorspace = s.colorspace ∧
      t.total = s.total) ∨
    (s.phase = .header ∧ (t.phase = .pixels ∨ t.phase = .done)) ∨
    (receivesReset s ∧ t.width = none ∧ t.height = none ∧ t.channels = none ∧ t.colorspace = none ∧ t.total = none)

/-- R174: the reset state, piece by piece; reading a header register there faults; the entry point is offset 0; only
PARSE_HEADER and RESET are admitted. (PREV, RUNCNT and CACHE are the source's values, the others the spec's decisions D4, D8,
D15 and D18.) -/
def Obligations.ResetStateAsListed : Prop :=
  State.reset.prev = { r := 0, g := 0, b := 0, a := 255 } ∧ State.reset.runcnt = 0 ∧
  (∀ i, State.reset.cacheGet i = { r := 0, g := 0, b := 0, a := 0 }) ∧
  State.reset.width = none ∧ State.reset.height = none ∧ State.reset.channels = none ∧
  State.reset.colorspace = none ∧ State.reset.viewValue .width = .error (.noValue .width) ∧
  State.reset.viewValue .height = .error (.noValue .height) ∧
  State.reset.viewValue .channels = .error (.noValue .channels) ∧
  State.reset.viewValue .colorspace = .error (.noValue .colorspace) ∧
  State.reset.cursor = 0 ∧ State.reset.emitted = 0 ∧ State.reset.total = none ∧ State.reset.phase = .header ∧
  errorNumber State.reset.errcode = 0 ∧
  State.reset.errinfo = { stage := .none, value := 0, offset := 0, pixel := 0 } ∧ State.reset.refused = false ∧
  admits State.reset.phase .parseHeader = true ∧ admits State.reset.phase .reset = true ∧
  admits State.reset.phase .next = false

/-- RESET is admitted in every phase, whether or not a command holds, which it aborts without a response; every register is
then as after reset, and nothing of the old session is left (decision D18 of the spec: R173, R175; the byte source: log 5). -/
def Obligations.ResetCommandStartsAfresh : Prop :=
  ∀ (s : State) (rest : List Input), s.inputs = .command .reset :: rest →
    (s.held = none ∨ ∃ c, s.held = some c ∧ attempt c { s with held := none } = .hold) →
    step s = .next { State.reset with inputs := rest, responses := s.responses }

/-- A read of the status view answers the field, faults where a header field has no value, and changes nothing of the block,
be it idle or with a command that holds; ERRCODE and STAGE have the numbers of R34 and R35 (decisions D8, D15, D16 of the
spec: R34, R35, R37; the read as an input, at any time: log 9, 3; the numbers as functions: log 11). -/
def Obligations.StatusViewIsReadOnly : Prop :=
  ∀ (s : State) (rest : List Input),
    (s.held = none ∨ ∃ c, s.held = some c ∧ attempt c { s with held := none } = .hold) →
    (∀ f v, s.inputs = .read f :: rest → s.viewValue f = .ok v →
      step s = .next { s with inputs := rest, responses := s.responses ++ [.view v] }) ∧
    (∀ w, s.width = some w → s.viewValue .width = .ok (.width w)) ∧
    (∀ h, s.height = some h → s.viewValue .height = .ok (.height h)) ∧
    (∀ c, s.channels = some c → s.viewValue .channels = .ok (.channels c)) ∧
    (∀ c, s.colorspace = some c → s.viewValue .colorspace = .ok (.colorspace c)) ∧
    s.viewValue .phase = .ok (.phase s.phase) ∧ s.viewValue .errcode = .ok (.errcode (errorNumber s.errcode)) ∧
    errorNumber .none = 0 ∧ errorNumber .format = 1 ∧ errorNumber .unsupported = 2 ∧ errorNumber .truncated = 3 ∧
    stageNumber .none = 0 ∧ stageNumber .magic = 1 ∧ stageNumber .header = 2 ∧ stageNumber .channels = 3 ∧
    stageNumber .colorspace = 4 ∧ stageNumber .opcode = 5 ∧ stageNumber .operand = 6 ∧
    s.viewValue .errinfo = .ok (.errinfo s.errinfo) ∧ s.viewValue .emitted = .ok (.emitted s.emitted) ∧
    s.viewValue .refused = .ok (.refused s.refused) ∧
    (s.width = none → s.inputs = .read .width :: rest → step s = .fault (.noValue .width)) ∧
    (s.height = none → s.inputs = .read .height :: rest → step s = .fault (.noValue .height)) ∧
    (s.channels = none → s.inputs = .read .channels :: rest → step s = .fault (.noValue .channels)) ∧
    (s.colorspace = none → s.inputs = .read .colorspace :: rest → step s = .fault (.noValue .colorspace))

/-- Between commands the block does nothing and its state is unchanged; a host that stops leaves the session as it is (R163;
that a step with no input left answers the same state is the model's inference, log 4). -/
def Obligations.IdleBlockStaysAsItIs : Prop :=
  ∀ s : State, s.held = none → s.inputs = [] → step s = .next s ∧ ∀ k, runsTo k s s

/-! ## Invariants -/

/-- The reset state meets the invariants (R42, an inference the spec marks as its own, with the model's additions). -/
def Obligations.ResetMeetsTheInvariant : Prop := Invariant State.reset

/-- Every step keeps the invariants of R42 (an inference the spec marks as its own) with the model's additions, from every
state that meets them. -/
def Obligations.EveryStepKeepsTheInvariant : Prop :=
  ∀ s t : State, Invariant s → step s = .next t → Invariant t

/-- Every opcode completes, in every state. No step stops but for what the spec gives no meaning: a step faults only on the
host's read of a header register that has no value, and refuses only a command after a refused one or beside a held one (R145,
R37, R166, R171: an inference and decisions D5, D15, D20 of the spec; log 6, 7, 8). That RUN with `n` 62 and 63, which no opcode
has, completes too is the model's choice (log 17). -/
def Obligations.StopsAreOnlyTheNamedOnes : Prop :=
  (∀ (i : Instr) (s : State), ∃ t, exec i s = .next t) ∧
  ∀ s : State,
    (∀ f, step s = .fault f → ∃ field rest reg, s.inputs = .read field :: rest ∧ f = .noValue reg ∧
      s.viewValue field = .error (.noValue reg)) ∧
    (∀ r, step s = .refused r → ∃ c rest, s.inputs = .command c :: rest ∧
      (r = .afterRefused c ∧ s.refused = true ∨ r = .concurrentCommand c ∧ s.held ≠ none))

/-! ## What a step does with each input -/

/-- A step that takes an admitted PARSE_HEADER or NEXT, just issued or held, answers what the command ends with: its result,
and the error where it raises (R90 to R106, R157, R166; the hold R50; the input list and where a held command is kept are the
model's, log 1 and 3; a command after a refused one: log 6). -/
def Obligations.StepPerformsTheCommand : Prop :=
  ∀ (s : State) (a : Host.Outcome State Fault Refusal),
    (∀ rest, s.held = none → s.refused = false → s.phase = .header → s.inputs = .command .parseHeader :: rest →
      parseHeader { s with inputs := rest } = .done a → step s = a) ∧
    (∀ rest, s.held = none → s.refused = false → s.phase = .pixels → s.inputs = .command .next :: rest →
      nextPixel { s with inputs := rest } = .done a → step s = a) ∧
    (s.held = some .parseHeader → parseHeader { s with held := none } = .done a → step s = a) ∧
    (s.held = some .next → nextPixel { s with held := none } = .done a → step s = a)

/-- What the byte source answers is taken, be the block idle or with a command that holds: a byte is the next of the stream
unless the source has ended (R46, R50; decision D3 of the spec: R51), and its end is marked; nothing else changes (the answers
as inputs: log 1 and 2). -/
def Obligations.SourceAnswersAreTaken : Prop :=
  ∀ (s : State) (rest : List Input),
    (s.held = none ∨ ∃ c, s.held = some c ∧ attempt c { s with held := none } = .hold) →
    (∀ v, s.inputs = .byte v :: rest → s.exhausted = false →
      step s = .next { s with inputs := rest, source := s.source ++ [v] }) ∧
    (∀ v, s.inputs = .byte v :: rest → s.exhausted = true → step s = .next { s with inputs := rest }) ∧
    (s.inputs = .eos :: rest → step s = .next { s with inputs := rest, exhausted := true })
end

