-- ==== Sys2Proof/Laws/State.lean ====
section
/-! SUPPORT. What each named update of the state does to each field, so that no proof unfolds a record update. -/

namespace Sys2Proof.Machine

/-! consume -/

@[simp] theorem State.consume_prev (n : Nat) (s : State) : (s.consume n).prev = s.prev := rfl
@[simp] theorem State.consume_runcnt (n : Nat) (s : State) : (s.consume n).runcnt = s.runcnt := rfl
@[simp] theorem State.consume_cache (n : Nat) (s : State) : (s.consume n).cache = s.cache := rfl
@[simp] theorem State.consume_width (n : Nat) (s : State) : (s.consume n).width = s.width := rfl
@[simp] theorem State.consume_height (n : Nat) (s : State) : (s.consume n).height = s.height := rfl
@[simp] theorem State.consume_channels (n : Nat) (s : State) : (s.consume n).channels = s.channels := rfl
@[simp] theorem State.consume_colorspace (n : Nat) (s : State) : (s.consume n).colorspace = s.colorspace := rfl
@[simp] theorem State.consume_cursor (n : Nat) (s : State) : (s.consume n).cursor = s.cursor + n := rfl
@[simp] theorem State.consume_emitted (n : Nat) (s : State) : (s.consume n).emitted = s.emitted := rfl
@[simp] theorem State.consume_total (n : Nat) (s : State) : (s.consume n).total = s.total := rfl
@[simp] theorem State.consume_phase (n : Nat) (s : State) : (s.consume n).phase = s.phase := rfl
@[simp] theorem State.consume_errcode (n : Nat) (s : State) : (s.consume n).errcode = s.errcode := rfl
@[simp] theorem State.consume_errinfo (n : Nat) (s : State) : (s.consume n).errinfo = s.errinfo := rfl
@[simp] theorem State.consume_refused (n : Nat) (s : State) : (s.consume n).refused = s.refused := rfl
@[simp] theorem State.consume_source (n : Nat) (s : State) : (s.consume n).source = s.source := rfl
@[simp] theorem State.consume_exhausted (n : Nat) (s : State) : (s.consume n).exhausted = s.exhausted := rfl
@[simp] theorem State.consume_inputs (n : Nat) (s : State) : (s.consume n).inputs = s.inputs := rfl
@[simp] theorem State.consume_held (n : Nat) (s : State) : (s.consume n).held = s.held := rfl
@[simp] theorem State.consume_responses (n : Nat) (s : State) : (s.consume n).responses = s.responses := rfl

/-! deliver -/

@[simp] theorem State.deliver_prev (v : Byte) (s : State) : (s.deliver v).prev = s.prev := rfl
@[simp] theorem State.deliver_runcnt (v : Byte) (s : State) : (s.deliver v).runcnt = s.runcnt := rfl
@[simp] theorem State.deliver_cache (v : Byte) (s : State) : (s.deliver v).cache = s.cache := rfl
@[simp] theorem State.deliver_width (v : Byte) (s : State) : (s.deliver v).width = s.width := rfl
@[simp] theorem State.deliver_height (v : Byte) (s : State) : (s.deliver v).height = s.height := rfl
@[simp] theorem State.deliver_channels (v : Byte) (s : State) : (s.deliver v).channels = s.channels := rfl
@[simp] theorem State.deliver_colorspace (v : Byte) (s : State) : (s.deliver v).colorspace = s.colorspace := rfl
@[simp] theorem State.deliver_cursor (v : Byte) (s : State) : (s.deliver v).cursor = s.cursor := rfl
@[simp] theorem State.deliver_emitted (v : Byte) (s : State) : (s.deliver v).emitted = s.emitted := rfl
@[simp] theorem State.deliver_total (v : Byte) (s : State) : (s.deliver v).total = s.total := rfl
@[simp] theorem State.deliver_phase (v : Byte) (s : State) : (s.deliver v).phase = s.phase := rfl
@[simp] theorem State.deliver_errcode (v : Byte) (s : State) : (s.deliver v).errcode = s.errcode := rfl
@[simp] theorem State.deliver_errinfo (v : Byte) (s : State) : (s.deliver v).errinfo = s.errinfo := rfl
@[simp] theorem State.deliver_refused (v : Byte) (s : State) : (s.deliver v).refused = s.refused := rfl
@[simp] theorem State.deliver_source (v : Byte) (s : State) : (s.deliver v).source = if s.exhausted then s.source else s.source ++ [v] := rfl
@[simp] theorem State.deliver_exhausted (v : Byte) (s : State) : (s.deliver v).exhausted = s.exhausted := rfl
@[simp] theorem State.deliver_inputs (v : Byte) (s : State) : (s.deliver v).inputs = s.inputs := rfl
@[simp] theorem State.deliver_held (v : Byte) (s : State) : (s.deliver v).held = s.held := rfl
@[simp] theorem State.deliver_responses (v : Byte) (s : State) : (s.deliver v).responses = s.responses := rfl

/-! exhaust -/

@[simp] theorem State.exhaust_prev (s : State) : (s.exhaust).prev = s.prev := rfl
@[simp] theorem State.exhaust_runcnt (s : State) : (s.exhaust).runcnt = s.runcnt := rfl
@[simp] theorem State.exhaust_cache (s : State) : (s.exhaust).cache = s.cache := rfl
@[simp] theorem State.exhaust_width (s : State) : (s.exhaust).width = s.width := rfl
@[simp] theorem State.exhaust_height (s : State) : (s.exhaust).height = s.height := rfl
@[simp] theorem State.exhaust_channels (s : State) : (s.exhaust).channels = s.channels := rfl
@[simp] theorem State.exhaust_colorspace (s : State) : (s.exhaust).colorspace = s.colorspace := rfl
@[simp] theorem State.exhaust_cursor (s : State) : (s.exhaust).cursor = s.cursor := rfl
@[simp] theorem State.exhaust_emitted (s : State) : (s.exhaust).emitted = s.emitted := rfl
@[simp] theorem State.exhaust_total (s : State) : (s.exhaust).total = s.total := rfl
@[simp] theorem State.exhaust_phase (s : State) : (s.exhaust).phase = s.phase := rfl
@[simp] theorem State.exhaust_errcode (s : State) : (s.exhaust).errcode = s.errcode := rfl
@[simp] theorem State.exhaust_errinfo (s : State) : (s.exhaust).errinfo = s.errinfo := rfl
@[simp] theorem State.exhaust_refused (s : State) : (s.exhaust).refused = s.refused := rfl
@[simp] theorem State.exhaust_source (s : State) : (s.exhaust).source = s.source := rfl
@[simp] theorem State.exhaust_exhausted (s : State) : (s.exhaust).exhausted = true := rfl
@[simp] theorem State.exhaust_inputs (s : State) : (s.exhaust).inputs = s.inputs := rfl
@[simp] theorem State.exhaust_held (s : State) : (s.exhaust).held = s.held := rfl
@[simp] theorem State.exhaust_responses (s : State) : (s.exhaust).responses = s.responses := rfl

/-! setPrev -/

@[simp] theorem State.setPrev_prev (p : Pixel) (s : State) : (s.setPrev p).prev = p := rfl
@[simp] theorem State.setPrev_runcnt (p : Pixel) (s : State) : (s.setPrev p).runcnt = s.runcnt := rfl
@[simp] theorem State.setPrev_cache (p : Pixel) (s : State) : (s.setPrev p).cache = s.cache := rfl
@[simp] theorem State.setPrev_width (p : Pixel) (s : State) : (s.setPrev p).width = s.width := rfl
@[simp] theorem State.setPrev_height (p : Pixel) (s : State) : (s.setPrev p).height = s.height := rfl
@[simp] theorem State.setPrev_channels (p : Pixel) (s : State) : (s.setPrev p).channels = s.channels := rfl
@[simp] theorem State.setPrev_colorspace (p : Pixel) (s : State) : (s.setPrev p).colorspace = s.colorspace := rfl
@[simp] theorem State.setPrev_cursor (p : Pixel) (s : State) : (s.setPrev p).cursor = s.cursor := rfl
@[simp] theorem State.setPrev_emitted (p : Pixel) (s : State) : (s.setPrev p).emitted = s.emitted := rfl
@[simp] theorem State.setPrev_total (p : Pixel) (s : State) : (s.setPrev p).total = s.total := rfl
@[simp] theorem State.setPrev_phase (p : Pixel) (s : State) : (s.setPrev p).phase = s.phase := rfl
@[simp] theorem State.setPrev_errcode (p : Pixel) (s : State) : (s.setPrev p).errcode = s.errcode := rfl
@[simp] theorem State.setPrev_errinfo (p : Pixel) (s : State) : (s.setPrev p).errinfo = s.errinfo := rfl
@[simp] theorem State.setPrev_refused (p : Pixel) (s : State) : (s.setPrev p).refused = s.refused := rfl
@[simp] theorem State.setPrev_source (p : Pixel) (s : State) : (s.setPrev p).source = s.source := rfl
@[simp] theorem State.setPrev_exhausted (p : Pixel) (s : State) : (s.setPrev p).exhausted = s.exhausted := rfl
@[simp] theorem State.setPrev_inputs (p : Pixel) (s : State) : (s.setPrev p).inputs = s.inputs := rfl
@[simp] theorem State.setPrev_held (p : Pixel) (s : State) : (s.setPrev p).held = s.held := rfl
@[simp] theorem State.setPrev_responses (p : Pixel) (s : State) : (s.setPrev p).responses = s.responses := rfl

/-! setRuncnt -/

@[simp] theorem State.setRuncnt_prev (v : U32) (s : State) : (s.setRuncnt v).prev = s.prev := rfl
@[simp] theorem State.setRuncnt_runcnt (v : U32) (s : State) : (s.setRuncnt v).runcnt = v := rfl
@[simp] theorem State.setRuncnt_cache (v : U32) (s : State) : (s.setRuncnt v).cache = s.cache := rfl
@[simp] theorem State.setRuncnt_width (v : U32) (s : State) : (s.setRuncnt v).width = s.width := rfl
@[simp] theorem State.setRuncnt_height (v : U32) (s : State) : (s.setRuncnt v).height = s.height := rfl
@[simp] theorem State.setRuncnt_channels (v : U32) (s : State) : (s.setRuncnt v).channels = s.channels := rfl
@[simp] theorem State.setRuncnt_colorspace (v : U32) (s : State) : (s.setRuncnt v).colorspace = s.colorspace := rfl
@[simp] theorem State.setRuncnt_cursor (v : U32) (s : State) : (s.setRuncnt v).cursor = s.cursor := rfl
@[simp] theorem State.setRuncnt_emitted (v : U32) (s : State) : (s.setRuncnt v).emitted = s.emitted := rfl
@[simp] theorem State.setRuncnt_total (v : U32) (s : State) : (s.setRuncnt v).total = s.total := rfl
@[simp] theorem State.setRuncnt_phase (v : U32) (s : State) : (s.setRuncnt v).phase = s.phase := rfl
@[simp] theorem State.setRuncnt_errcode (v : U32) (s : State) : (s.setRuncnt v).errcode = s.errcode := rfl
@[simp] theorem State.setRuncnt_errinfo (v : U32) (s : State) : (s.setRuncnt v).errinfo = s.errinfo := rfl
@[simp] theorem State.setRuncnt_refused (v : U32) (s : State) : (s.setRuncnt v).refused = s.refused := rfl
@[simp] theorem State.setRuncnt_source (v : U32) (s : State) : (s.setRuncnt v).source = s.source := rfl
@[simp] theorem State.setRuncnt_exhausted (v : U32) (s : State) : (s.setRuncnt v).exhausted = s.exhausted := rfl
@[simp] theorem State.setRuncnt_inputs (v : U32) (s : State) : (s.setRuncnt v).inputs = s.inputs := rfl
@[simp] theorem State.setRuncnt_held (v : U32) (s : State) : (s.setRuncnt v).held = s.held := rfl
@[simp] theorem State.setRuncnt_responses (v : U32) (s : State) : (s.setRuncnt v).responses = s.responses := rfl

/-! cacheSet -/

@[simp] theorem State.cacheSet_prev (i : BitVec 6) (p : Pixel) (s : State) : (s.cacheSet i p).prev = s.prev := rfl
@[simp] theorem State.cacheSet_runcnt (i : BitVec 6) (p : Pixel) (s : State) : (s.cacheSet i p).runcnt = s.runcnt := rfl
@[simp] theorem State.cacheSet_cache (i : BitVec 6) (p : Pixel) (s : State) : (s.cacheSet i p).cache = s.cache.set i.toNat p i.isLt := rfl
@[simp] theorem State.cacheSet_width (i : BitVec 6) (p : Pixel) (s : State) : (s.cacheSet i p).width = s.width := rfl
@[simp] theorem State.cacheSet_height (i : BitVec 6) (p : Pixel) (s : State) : (s.cacheSet i p).height = s.height := rfl
@[simp] theorem State.cacheSet_channels (i : BitVec 6) (p : Pixel) (s : State) : (s.cacheSet i p).channels = s.channels := rfl
@[simp] theorem State.cacheSet_colorspace (i : BitVec 6) (p : Pixel) (s : State) : (s.cacheSet i p).colorspace = s.colorspace := rfl
@[simp] theorem State.cacheSet_cursor (i : BitVec 6) (p : Pixel) (s : State) : (s.cacheSet i p).cursor = s.cursor := rfl
@[simp] theorem State.cacheSet_emitted (i : BitVec 6) (p : Pixel) (s : State) : (s.cacheSet i p).emitted = s.emitted := rfl
@[simp] theorem State.cacheSet_total (i : BitVec 6) (p : Pixel) (s : State) : (s.cacheSet i p).total = s.total := rfl
@[simp] theorem State.cacheSet_phase (i : BitVec 6) (p : Pixel) (s : State) : (s.cacheSet i p).phase = s.phase := rfl
@[simp] theorem State.cacheSet_errcode (i : BitVec 6) (p : Pixel) (s : State) : (s.cacheSet i p).errcode = s.errcode := rfl
@[simp] theorem State.cacheSet_errinfo (i : BitVec 6) (p : Pixel) (s : State) : (s.cacheSet i p).errinfo = s.errinfo := rfl
@[simp] theorem State.cacheSet_refused (i : BitVec 6) (p : Pixel) (s : State) : (s.cacheSet i p).refused = s.refused := rfl
@[simp] theorem State.cacheSet_source (i : BitVec 6) (p : Pixel) (s : State) : (s.cacheSet i p).source = s.source := rfl
@[simp] theorem State.cacheSet_exhausted (i : BitVec 6) (p : Pixel) (s : State) : (s.cacheSet i p).exhausted = s.exhausted := rfl
@[simp] theorem State.cacheSet_inputs (i : BitVec 6) (p : Pixel) (s : State) : (s.cacheSet i p).inputs = s.inputs := rfl
@[simp] theorem State.cacheSet_held (i : BitVec 6) (p : Pixel) (s : State) : (s.cacheSet i p).held = s.held := rfl
@[simp] theorem State.cacheSet_responses (i : BitVec 6) (p : Pixel) (s : State) : (s.cacheSet i p).responses = s.responses := rfl

/-! updateCache -/

@[simp] theorem State.updateCache_prev (s : State) : (s.updateCache).prev = s.prev := rfl
@[simp] theorem State.updateCache_runcnt (s : State) : (s.updateCache).runcnt = s.runcnt := rfl
@[simp] theorem State.updateCache_cache (s : State) : (s.updateCache).cache = s.cache.set (pixelHash s.prev).toNat s.prev (pixelHash s.prev).isLt := rfl
@[simp] theorem State.updateCache_width (s : State) : (s.updateCache).width = s.width := rfl
@[simp] theorem State.updateCache_height (s : State) : (s.updateCache).height = s.height := rfl
@[simp] theorem State.updateCache_channels (s : State) : (s.updateCache).channels = s.channels := rfl
@[simp] theorem State.updateCache_colorspace (s : State) : (s.updateCache).colorspace = s.colorspace := rfl
@[simp] theorem State.updateCache_cursor (s : State) : (s.updateCache).cursor = s.cursor := rfl
@[simp] theorem State.updateCache_emitted (s : State) : (s.updateCache).emitted = s.emitted := rfl
@[simp] theorem State.updateCache_total (s : State) : (s.updateCache).total = s.total := rfl
@[simp] theorem State.updateCache_phase (s : State) : (s.updateCache).phase = s.phase := rfl
@[simp] theorem State.updateCache_errcode (s : State) : (s.updateCache).errcode = s.errcode := rfl
@[simp] theorem State.updateCache_errinfo (s : State) : (s.updateCache).errinfo = s.errinfo := rfl
@[simp] theorem State.updateCache_refused (s : State) : (s.updateCache).refused = s.refused := rfl
@[simp] theorem State.updateCache_source (s : State) : (s.updateCache).source = s.source := rfl
@[simp] theorem State.updateCache_exhausted (s : State) : (s.updateCache).exhausted = s.exhausted := rfl
@[simp] theorem State.updateCache_inputs (s : State) : (s.updateCache).inputs = s.inputs := rfl
@[simp] theorem State.updateCache_held (s : State) : (s.updateCache).held = s.held := rfl
@[simp] theorem State.updateCache_responses (s : State) : (s.updateCache).responses = s.responses := rfl

/-! respond -/

@[simp] theorem State.respond_prev (r : Response) (s : State) : (s.respond r).prev = s.prev := rfl
@[simp] theorem State.respond_runcnt (r : Response) (s : State) : (s.respond r).runcnt = s.runcnt := rfl
@[simp] theorem State.respond_cache (r : Response) (s : State) : (s.respond r).cache = s.cache := rfl
@[simp] theorem State.respond_width (r : Response) (s : State) : (s.respond r).width = s.width := rfl
@[simp] theorem State.respond_height (r : Response) (s : State) : (s.respond r).height = s.height := rfl
@[simp] theorem State.respond_channels (r : Response) (s : State) : (s.respond r).channels = s.channels := rfl
@[simp] theorem State.respond_colorspace (r : Response) (s : State) : (s.respond r).colorspace = s.colorspace := rfl
@[simp] theorem State.respond_cursor (r : Response) (s : State) : (s.respond r).cursor = s.cursor := rfl
@[simp] theorem State.respond_emitted (r : Response) (s : State) : (s.respond r).emitted = s.emitted := rfl
@[simp] theorem State.respond_total (r : Response) (s : State) : (s.respond r).total = s.total := rfl
@[simp] theorem State.respond_phase (r : Response) (s : State) : (s.respond r).phase = s.phase := rfl
@[simp] theorem State.respond_errcode (r : Response) (s : State) : (s.respond r).errcode = s.errcode := rfl
@[simp] theorem State.respond_errinfo (r : Response) (s : State) : (s.respond r).errinfo = s.errinfo := rfl
@[simp] theorem State.respond_refused (r : Response) (s : State) : (s.respond r).refused = s.refused := rfl
@[simp] theorem State.respond_source (r : Response) (s : State) : (s.respond r).source = s.source := rfl
@[simp] theorem State.respond_exhausted (r : Response) (s : State) : (s.respond r).exhausted = s.exhausted := rfl
@[simp] theorem State.respond_inputs (r : Response) (s : State) : (s.respond r).inputs = s.inputs := rfl
@[simp] theorem State.respond_held (r : Response) (s : State) : (s.respond r).held = s.held := rfl
@[simp] theorem State.respond_responses (r : Response) (s : State) : (s.respond r).responses = s.responses ++ [r] := rfl

/-! emit -/

@[simp] theorem State.emit_prev (s : State) : (s.emit).prev = s.prev := rfl
@[simp] theorem State.emit_runcnt (s : State) : (s.emit).runcnt = s.runcnt := rfl
@[simp] theorem State.emit_cache (s : State) : (s.emit).cache = s.cache := rfl
@[simp] theorem State.emit_width (s : State) : (s.emit).width = s.width := rfl
@[simp] theorem State.emit_height (s : State) : (s.emit).height = s.height := rfl
@[simp] theorem State.emit_channels (s : State) : (s.emit).channels = s.channels := rfl
@[simp] theorem State.emit_colorspace (s : State) : (s.emit).colorspace = s.colorspace := rfl
@[simp] theorem State.emit_cursor (s : State) : (s.emit).cursor = s.cursor := rfl
@[simp] theorem State.emit_emitted (s : State) : (s.emit).emitted = s.emitted + 1 := rfl
@[simp] theorem State.emit_total (s : State) : (s.emit).total = s.total := rfl
@[simp] theorem State.emit_phase (s : State) : (s.emit).phase = s.phase := rfl
@[simp] theorem State.emit_errcode (s : State) : (s.emit).errcode = s.errcode := rfl
@[simp] theorem State.emit_errinfo (s : State) : (s.emit).errinfo = s.errinfo := rfl
@[simp] theorem State.emit_refused (s : State) : (s.emit).refused = s.refused := rfl
@[simp] theorem State.emit_source (s : State) : (s.emit).source = s.source := rfl
@[simp] theorem State.emit_exhausted (s : State) : (s.emit).exhausted = s.exhausted := rfl
@[simp] theorem State.emit_inputs (s : State) : (s.emit).inputs = s.inputs := rfl
@[simp] theorem State.emit_held (s : State) : (s.emit).held = s.held := rfl
@[simp] theorem State.emit_responses (s : State) : (s.emit).responses = s.responses ++ [.pixel s.prev] := rfl

/-! endIfComplete -/

@[simp] theorem State.endIfComplete_prev (s : State) : s.endIfComplete.prev = s.prev := rfl
@[simp] theorem State.endIfComplete_runcnt (s : State) : s.endIfComplete.runcnt = s.runcnt := rfl
@[simp] theorem State.endIfComplete_cache (s : State) : s.endIfComplete.cache = s.cache := rfl
@[simp] theorem State.endIfComplete_width (s : State) : s.endIfComplete.width = s.width := rfl
@[simp] theorem State.endIfComplete_height (s : State) : s.endIfComplete.height = s.height := rfl
@[simp] theorem State.endIfComplete_channels (s : State) : s.endIfComplete.channels = s.channels := rfl
@[simp] theorem State.endIfComplete_colorspace (s : State) : s.endIfComplete.colorspace = s.colorspace := rfl
@[simp] theorem State.endIfComplete_cursor (s : State) : s.endIfComplete.cursor = s.cursor := rfl
@[simp] theorem State.endIfComplete_emitted (s : State) : s.endIfComplete.emitted = s.emitted := rfl
@[simp] theorem State.endIfComplete_total (s : State) : s.endIfComplete.total = s.total := rfl
@[simp] theorem State.endIfComplete_phase (s : State) : s.endIfComplete.phase = phaseAfterEmit s.emitted s.total s.phase := rfl
@[simp] theorem State.endIfComplete_errcode (s : State) : s.endIfComplete.errcode = s.errcode := rfl
@[simp] theorem State.endIfComplete_errinfo (s : State) : s.endIfComplete.errinfo = s.errinfo := rfl
@[simp] theorem State.endIfComplete_refused (s : State) : s.endIfComplete.refused = s.refused := rfl
@[simp] theorem State.endIfComplete_source (s : State) : s.endIfComplete.source = s.source := rfl
@[simp] theorem State.endIfComplete_exhausted (s : State) : s.endIfComplete.exhausted = s.exhausted := rfl
@[simp] theorem State.endIfComplete_inputs (s : State) : s.endIfComplete.inputs = s.inputs := rfl
@[simp] theorem State.endIfComplete_held (s : State) : s.endIfComplete.held = s.held := rfl
@[simp] theorem State.endIfComplete_responses (s : State) : s.endIfComplete.responses = s.responses := rfl

/-! raise -/

@[simp] theorem State.raise_prev (code : ErrCode) (stage : Stage) (value : Byte) (s : State) : (s.raise code stage value).prev = s.prev := rfl
@[simp] theorem State.raise_runcnt (code : ErrCode) (stage : Stage) (value : Byte) (s : State) : (s.raise code stage value).runcnt = s.runcnt := rfl
@[simp] theorem State.raise_cache (code : ErrCode) (stage : Stage) (value : Byte) (s : State) : (s.raise code stage value).cache = s.cache := rfl
@[simp] theorem State.raise_width (code : ErrCode) (stage : Stage) (value : Byte) (s : State) : (s.raise code stage value).width = s.width := rfl
@[simp] theorem State.raise_height (code : ErrCode) (stage : Stage) (value : Byte) (s : State) : (s.raise code stage value).height = s.height := rfl
@[simp] theorem State.raise_channels (code : ErrCode) (stage : Stage) (value : Byte) (s : State) : (s.raise code stage value).channels = s.channels := rfl
@[simp] theorem State.raise_colorspace (code : ErrCode) (stage : Stage) (value : Byte) (s : State) : (s.raise code stage value).colorspace = s.colorspace := rfl
@[simp] theorem State.raise_cursor (code : ErrCode) (stage : Stage) (value : Byte) (s : State) : (s.raise code stage value).cursor = s.cursor := rfl
@[simp] theorem State.raise_emitted (code : ErrCode) (stage : Stage) (value : Byte) (s : State) : (s.raise code stage value).emitted = s.emitted := rfl
@[simp] theorem State.raise_total (code : ErrCode) (stage : Stage) (value : Byte) (s : State) : (s.raise code stage value).total = s.total := rfl
@[simp] theorem State.raise_phase (code : ErrCode) (stage : Stage) (value : Byte) (s : State) : (s.raise code stage value).phase = .error := rfl
@[simp] theorem State.raise_errcode (code : ErrCode) (stage : Stage) (value : Byte) (s : State) : (s.raise code stage value).errcode = code := rfl
@[simp] theorem State.raise_errinfo (code : ErrCode) (stage : Stage) (value : Byte) (s : State) : (s.raise code stage value).errinfo = { stage := stage, value := value, offset := s.cursor, pixel := s.emitted } := rfl
@[simp] theorem State.raise_refused (code : ErrCode) (stage : Stage) (value : Byte) (s : State) : (s.raise code stage value).refused = s.refused := rfl
@[simp] theorem State.raise_source (code : ErrCode) (stage : Stage) (value : Byte) (s : State) : (s.raise code stage value).source = s.source := rfl
@[simp] theorem State.raise_exhausted (code : ErrCode) (stage : Stage) (value : Byte) (s : State) : (s.raise code stage value).exhausted = s.exhausted := rfl
@[simp] theorem State.raise_inputs (code : ErrCode) (stage : Stage) (value : Byte) (s : State) : (s.raise code stage value).inputs = s.inputs := rfl
@[simp] theorem State.raise_held (code : ErrCode) (stage : Stage) (value : Byte) (s : State) : (s.raise code stage value).held = s.held := rfl
@[simp] theorem State.raise_responses (code : ErrCode) (stage : Stage) (value : Byte) (s : State) : (s.raise code stage value).responses = s.responses ++ [.error code { stage := stage, value := value, offset := s.cursor, pixel := s.emitted }] := rfl

/-! markRefused -/

@[simp] theorem State.markRefused_prev (s : State) : (s.markRefused).prev = s.prev := rfl
@[simp] theorem State.markRefused_runcnt (s : State) : (s.markRefused).runcnt = s.runcnt := rfl
@[simp] theorem State.markRefused_cache (s : State) : (s.markRefused).cache = s.cache := rfl
@[simp] theorem State.markRefused_width (s : State) : (s.markRefused).width = s.width := rfl
@[simp] theorem State.markRefused_height (s : State) : (s.markRefused).height = s.height := rfl
@[simp] theorem State.markRefused_channels (s : State) : (s.markRefused).channels = s.channels := rfl
@[simp] theorem State.markRefused_colorspace (s : State) : (s.markRefused).colorspace = s.colorspace := rfl
@[simp] theorem State.markRefused_cursor (s : State) : (s.markRefused).cursor = s.cursor := rfl
@[simp] theorem State.markRefused_emitted (s : State) : (s.markRefused).emitted = s.emitted := rfl
@[simp] theorem State.markRefused_total (s : State) : (s.markRefused).total = s.total := rfl
@[simp] theorem State.markRefused_phase (s : State) : (s.markRefused).phase = s.phase := rfl
@[simp] theorem State.markRefused_errcode (s : State) : (s.markRefused).errcode = s.errcode := rfl
@[simp] theorem State.markRefused_errinfo (s : State) : (s.markRefused).errinfo = s.errinfo := rfl
@[simp] theorem State.markRefused_refused (s : State) : (s.markRefused).refused = true := rfl
@[simp] theorem State.markRefused_source (s : State) : (s.markRefused).source = s.source := rfl
@[simp] theorem State.markRefused_exhausted (s : State) : (s.markRefused).exhausted = s.exhausted := rfl
@[simp] theorem State.markRefused_inputs (s : State) : (s.markRefused).inputs = s.inputs := rfl
@[simp] theorem State.markRefused_held (s : State) : (s.markRefused).held = s.held := rfl
@[simp] theorem State.markRefused_responses (s : State) : (s.markRefused).responses = s.responses := rfl

/-! restart -/

@[simp] theorem State.restart_prev (s : State) : (s.restart).prev = Config.prevReset := rfl
@[simp] theorem State.restart_runcnt (s : State) : (s.restart).runcnt = 0 := rfl
@[simp] theorem State.restart_cache (s : State) : (s.restart).cache = Vector.replicate Config.cacheEntries Config.cacheReset := rfl
@[simp] theorem State.restart_width (s : State) : (s.restart).width = none := rfl
@[simp] theorem State.restart_height (s : State) : (s.restart).height = none := rfl
@[simp] theorem State.restart_channels (s : State) : (s.restart).channels = none := rfl
@[simp] theorem State.restart_colorspace (s : State) : (s.restart).colorspace = none := rfl
@[simp] theorem State.restart_cursor (s : State) : (s.restart).cursor = 0 := rfl
@[simp] theorem State.restart_emitted (s : State) : (s.restart).emitted = 0 := rfl
@[simp] theorem State.restart_total (s : State) : (s.restart).total = none := rfl
@[simp] theorem State.restart_phase (s : State) : (s.restart).phase = .header := rfl
@[simp] theorem State.restart_errcode (s : State) : (s.restart).errcode = .none := rfl
@[simp] theorem State.restart_errinfo (s : State) : (s.restart).errinfo = ErrInfo.reset := rfl
@[simp] theorem State.restart_refused (s : State) : (s.restart).refused = false := rfl
@[simp] theorem State.restart_source (s : State) : (s.restart).source = [] := rfl
@[simp] theorem State.restart_exhausted (s : State) : (s.restart).exhausted = false := rfl
@[simp] theorem State.restart_inputs (s : State) : (s.restart).inputs = s.inputs := rfl
@[simp] theorem State.restart_held (s : State) : (s.restart).held = none := rfl
@[simp] theorem State.restart_responses (s : State) : (s.restart).responses = s.responses := rfl

/-! storeHeader -/

@[simp] theorem State.storeHeader_prev (w h : U32) (c cs : Byte) (s : State) : (s.storeHeader w h c cs).prev = s.prev := rfl
@[simp] theorem State.storeHeader_runcnt (w h : U32) (c cs : Byte) (s : State) : (s.storeHeader w h c cs).runcnt = s.runcnt := rfl
@[simp] theorem State.storeHeader_cache (w h : U32) (c cs : Byte) (s : State) : (s.storeHeader w h c cs).cache = s.cache := rfl
@[simp] theorem State.storeHeader_width (w h : U32) (c cs : Byte) (s : State) : (s.storeHeader w h c cs).width = some w := rfl
@[simp] theorem State.storeHeader_height (w h : U32) (c cs : Byte) (s : State) : (s.storeHeader w h c cs).height = some h := rfl
@[simp] theorem State.storeHeader_channels (w h : U32) (c cs : Byte) (s : State) : (s.storeHeader w h c cs).channels = some c := rfl
@[simp] theorem State.storeHeader_colorspace (w h : U32) (c cs : Byte) (s : State) : (s.storeHeader w h c cs).colorspace = some cs := rfl
@[simp] theorem State.storeHeader_cursor (w h : U32) (c cs : Byte) (s : State) : (s.storeHeader w h c cs).cursor = s.cursor := rfl
@[simp] theorem State.storeHeader_emitted (w h : U32) (c cs : Byte) (s : State) : (s.storeHeader w h c cs).emitted = s.emitted := rfl
@[simp] theorem State.storeHeader_total (w h : U32) (c cs : Byte) (s : State) : (s.storeHeader w h c cs).total = some (pixelCount w h) := rfl
@[simp] theorem State.storeHeader_phase (w h : U32) (c cs : Byte) (s : State) : (s.storeHeader w h c cs).phase = phaseAfterHeader (pixelCount w h) := rfl
@[simp] theorem State.storeHeader_errcode (w h : U32) (c cs : Byte) (s : State) : (s.storeHeader w h c cs).errcode = s.errcode := rfl
@[simp] theorem State.storeHeader_errinfo (w h : U32) (c cs : Byte) (s : State) : (s.storeHeader w h c cs).errinfo = s.errinfo := rfl
@[simp] theorem State.storeHeader_refused (w h : U32) (c cs : Byte) (s : State) : (s.storeHeader w h c cs).refused = s.refused := rfl
@[simp] theorem State.storeHeader_source (w h : U32) (c cs : Byte) (s : State) : (s.storeHeader w h c cs).source = s.source := rfl
@[simp] theorem State.storeHeader_exhausted (w h : U32) (c cs : Byte) (s : State) : (s.storeHeader w h c cs).exhausted = s.exhausted := rfl
@[simp] theorem State.storeHeader_inputs (w h : U32) (c cs : Byte) (s : State) : (s.storeHeader w h c cs).inputs = s.inputs := rfl
@[simp] theorem State.storeHeader_held (w h : U32) (c cs : Byte) (s : State) : (s.storeHeader w h c cs).held = s.held := rfl
@[simp] theorem State.storeHeader_responses (w h : U32) (c cs : Byte) (s : State) : (s.storeHeader w h c cs).responses = s.responses ++ [.header w h c cs] := rfl

/-! withInputs -/

@[simp] theorem State.withInputs_prev (rest : List Input) (s : State) : (s.withInputs rest).prev = s.prev := rfl
@[simp] theorem State.withInputs_runcnt (rest : List Input) (s : State) : (s.withInputs rest).runcnt = s.runcnt := rfl
@[simp] theorem State.withInputs_cache (rest : List Input) (s : State) : (s.withInputs rest).cache = s.cache := rfl
@[simp] theorem State.withInputs_width (rest : List Input) (s : State) : (s.withInputs rest).width = s.width := rfl
@[simp] theorem State.withInputs_height (rest : List Input) (s : State) : (s.withInputs rest).height = s.height := rfl
@[simp] theorem State.withInputs_channels (rest : List Input) (s : State) : (s.withInputs rest).channels = s.channels := rfl
@[simp] theorem State.withInputs_colorspace (rest : List Input) (s : State) : (s.withInputs rest).colorspace = s.colorspace := rfl
@[simp] theorem State.withInputs_cursor (rest : List Input) (s : State) : (s.withInputs rest).cursor = s.cursor := rfl
@[simp] theorem State.withInputs_emitted (rest : List Input) (s : State) : (s.withInputs rest).emitted = s.emitted := rfl
@[simp] theorem State.withInputs_total (rest : List Input) (s : State) : (s.withInputs rest).total = s.total := rfl
@[simp] theorem State.withInputs_phase (rest : List Input) (s : State) : (s.withInputs rest).phase = s.phase := rfl
@[simp] theorem State.withInputs_errcode (rest : List Input) (s : State) : (s.withInputs rest).errcode = s.errcode := rfl
@[simp] theorem State.withInputs_errinfo (rest : List Input) (s : State) : (s.withInputs rest).errinfo = s.errinfo := rfl
@[simp] theorem State.withInputs_refused (rest : List Input) (s : State) : (s.withInputs rest).refused = s.refused := rfl
@[simp] theorem State.withInputs_source (rest : List Input) (s : State) : (s.withInputs rest).source = s.source := rfl
@[simp] theorem State.withInputs_exhausted (rest : List Input) (s : State) : (s.withInputs rest).exhausted = s.exhausted := rfl
@[simp] theorem State.withInputs_inputs (rest : List Input) (s : State) : (s.withInputs rest).inputs = rest := rfl
@[simp] theorem State.withInputs_held (rest : List Input) (s : State) : (s.withInputs rest).held = s.held := rfl
@[simp] theorem State.withInputs_responses (rest : List Input) (s : State) : (s.withInputs rest).responses = s.responses := rfl

/-! setHeld -/

@[simp] theorem State.setHeld_prev (c : Option Command) (s : State) : (s.setHeld c).prev = s.prev := rfl
@[simp] theorem State.setHeld_runcnt (c : Option Command) (s : State) : (s.setHeld c).runcnt = s.runcnt := rfl
@[simp] theorem State.setHeld_cache (c : Option Command) (s : State) : (s.setHeld c).cache = s.cache := rfl
@[simp] theorem State.setHeld_width (c : Option Command) (s : State) : (s.setHeld c).width = s.width := rfl
@[simp] theorem State.setHeld_height (c : Option Command) (s : State) : (s.setHeld c).height = s.height := rfl
@[simp] theorem State.setHeld_channels (c : Option Command) (s : State) : (s.setHeld c).channels = s.channels := rfl
@[simp] theorem State.setHeld_colorspace (c : Option Command) (s : State) : (s.setHeld c).colorspace = s.colorspace := rfl
@[simp] theorem State.setHeld_cursor (c : Option Command) (s : State) : (s.setHeld c).cursor = s.cursor := rfl
@[simp] theorem State.setHeld_emitted (c : Option Command) (s : State) : (s.setHeld c).emitted = s.emitted := rfl
@[simp] theorem State.setHeld_total (c : Option Command) (s : State) : (s.setHeld c).total = s.total := rfl
@[simp] theorem State.setHeld_phase (c : Option Command) (s : State) : (s.setHeld c).phase = s.phase := rfl
@[simp] theorem State.setHeld_errcode (c : Option Command) (s : State) : (s.setHeld c).errcode = s.errcode := rfl
@[simp] theorem State.setHeld_errinfo (c : Option Command) (s : State) : (s.setHeld c).errinfo = s.errinfo := rfl
@[simp] theorem State.setHeld_refused (c : Option Command) (s : State) : (s.setHeld c).refused = s.refused := rfl
@[simp] theorem State.setHeld_source (c : Option Command) (s : State) : (s.setHeld c).source = s.source := rfl
@[simp] theorem State.setHeld_exhausted (c : Option Command) (s : State) : (s.setHeld c).exhausted = s.exhausted := rfl
@[simp] theorem State.setHeld_inputs (c : Option Command) (s : State) : (s.setHeld c).inputs = s.inputs := rfl
@[simp] theorem State.setHeld_held (c : Option Command) (s : State) : (s.setHeld c).held = c := rfl
@[simp] theorem State.setHeld_responses (c : Option Command) (s : State) : (s.setHeld c).responses = s.responses := rfl

/-! produce -/

@[simp] theorem State.produce_prev (n : Nat) (p : Pixel) (s : State) : (s.produce n p).prev = p := rfl
@[simp] theorem State.produce_runcnt (n : Nat) (p : Pixel) (s : State) : (s.produce n p).runcnt = s.runcnt := rfl
@[simp] theorem State.produce_cache (n : Nat) (p : Pixel) (s : State) : (s.produce n p).cache = s.cache.set (pixelHash p).toNat p (pixelHash p).isLt := rfl
@[simp] theorem State.produce_width (n : Nat) (p : Pixel) (s : State) : (s.produce n p).width = s.width := rfl
@[simp] theorem State.produce_height (n : Nat) (p : Pixel) (s : State) : (s.produce n p).height = s.height := rfl
@[simp] theorem State.produce_channels (n : Nat) (p : Pixel) (s : State) : (s.produce n p).channels = s.channels := rfl
@[simp] theorem State.produce_colorspace (n : Nat) (p : Pixel) (s : State) : (s.produce n p).colorspace = s.colorspace := rfl
@[simp] theorem State.produce_cursor (n : Nat) (p : Pixel) (s : State) : (s.produce n p).cursor = s.cursor + n := rfl
@[simp] theorem State.produce_emitted (n : Nat) (p : Pixel) (s : State) : (s.produce n p).emitted = s.emitted + 1 := rfl
@[simp] theorem State.produce_total (n : Nat) (p : Pixel) (s : State) : (s.produce n p).total = s.total := rfl
@[simp] theorem State.produce_phase (n : Nat) (p : Pixel) (s : State) : (s.produce n p).phase = phaseAfterEmit (s.emitted + 1) s.total s.phase := rfl
@[simp] theorem State.produce_errcode (n : Nat) (p : Pixel) (s : State) : (s.produce n p).errcode = s.errcode := rfl
@[simp] theorem State.produce_errinfo (n : Nat) (p : Pixel) (s : State) : (s.produce n p).errinfo = s.errinfo := rfl
@[simp] theorem State.produce_refused (n : Nat) (p : Pixel) (s : State) : (s.produce n p).refused = s.refused := rfl
@[simp] theorem State.produce_source (n : Nat) (p : Pixel) (s : State) : (s.produce n p).source = s.source := rfl
@[simp] theorem State.produce_exhausted (n : Nat) (p : Pixel) (s : State) : (s.produce n p).exhausted = s.exhausted := rfl
@[simp] theorem State.produce_inputs (n : Nat) (p : Pixel) (s : State) : (s.produce n p).inputs = s.inputs := rfl
@[simp] theorem State.produce_held (n : Nat) (p : Pixel) (s : State) : (s.produce n p).held = s.held := rfl
@[simp] theorem State.produce_responses (n : Nat) (p : Pixel) (s : State) : (s.produce n p).responses = s.responses ++ [.pixel p] := rfl

end Sys2Proof.Machine
end

