-- ==== Sys2Proof/Laws/Stream.lean ====
section
/-! SUPPORT. The byte stream: what `InByte()`, `InBytes(n)` and the decoder can do, said once each. A list of bytes is its own
canonical form (`source_ext`), which every operation keeps. -/

namespace Sys2Proof.Machine

/-- Two byte sources that answer every request alike are the same data. -/
theorem source_ext (xs ys : List Byte) (h : ∀ k : Nat, xs[k]? = ys[k]?) : xs = ys := List.ext_getElem? h

@[simp] theorem State.available_consume (n : Nat) (s : State) :
    (s.consume n).available = s.available.drop n := by
  simp [State.available, List.drop_drop]

@[simp] theorem State.available_setRuncnt (v : U32) (s : State) : (s.setRuncnt v).available = s.available := rfl

@[simp] theorem State.consume_zero (s : State) : s.consume 0 = s := rfl

@[simp] theorem State.consume_consume (m n : Nat) (s : State) :
    (s.consume m).consume n = s.consume (m + n) := by
  simp [State.consume, Nat.add_assoc]

/-- The three answers of the handshake (R50). -/
theorem inByte_cases (s : State) :
    (∃ v tail, s.available = v :: tail ∧ inByte s = .got v (s.consume 1)) ∨
    (s.available = [] ∧ s.exhausted = true ∧ inByte s = .eos s) ∨
    (s.available = [] ∧ s.exhausted = false ∧ inByte s = .hold) := by
  unfold inByte
  cases ha : s.available with
  | cons v tail => exact .inl ⟨v, tail, rfl, rfl⟩
  | nil => cases he : s.exhausted <;> simp

theorem inByte_cons {s : State} {v : Byte} {tail : List Byte} (h : s.available = v :: tail) :
    inByte s = .got v (s.consume 1) := by
  simp [inByte, h]

/-- What `InBytes(n)` answers: the bytes if there are enough, else EOS past those that are there, else a hold (R14). -/
theorem inBytes_eq (n : Nat) (s : State) :
    inBytes n s =
      if n ≤ s.available.length then .got (s.available.take n) (s.consume n)
      else if s.exhausted then .eos (s.consume s.available.length) else .hold := by
  induction n generalizing s with
  | zero => simp [inBytes]
  | succ n ih =>
    rcases inByte_cases s with ⟨v, tail, ha, hb⟩ | ⟨ha, he, hb⟩ | ⟨ha, he, hb⟩
    · simp only [inBytes, hb, ih (s.consume 1), State.available_consume, ha, State.consume_exhausted, List.drop_one,
        List.tail_cons, List.length_cons, Nat.add_le_add_iff_right, State.consume_consume]
      by_cases hn : n ≤ tail.length
      · simp [hn, Nat.add_comm]
      · cases he : s.exhausted <;> simp [hn, Nat.add_comm]
    · simp [inBytes, hb, ha, he]
    · simp [inBytes, hb, ha, he]

theorem inBytes_append {n : Nat} {s : State} {xs ys : List Byte} (h : s.available = xs ++ ys)
    (hn : xs.length = n) : inBytes n s = .got xs (s.consume n) := by
  rw [inBytes_eq, h, if_pos (by simp [hn]), ← hn, List.take_left]

theorem inBytes_short {n : Nat} {s : State} (h : s.available.length < n) (he : s.exhausted = true) :
    inBytes n s = .eos (s.consume s.available.length) := by
  rw [inBytes_eq, if_neg (by omega), if_pos he]

theorem inBytes_hold {n : Nat} {s : State} (h : s.available.length < n) (he : s.exhausted = false) :
    inBytes n s = .hold := by
  rw [inBytes_eq, if_neg (by omega)]
  simp [he]

/-- The decoder refuses only for want of bytes (R82), and names what is missing. -/
theorem decode_error {bs : List Byte} {e : DecodeError} (h : decode bs = .error e) :
    (bs = [] ∧ e = .opMissing) ∨
    (∃ op rest, bs = op :: rest ∧ e = .operandMissing op ∧ bs.length < kindLength (kindOf op)) := by
  match bs with
  | [] => exact .inl ⟨rfl, by simpa [decode] using h.symm⟩
  | op :: rest =>
    refine .inr ⟨op, rest, rfl, ?_⟩
    simp only [decode] at h
    cases hk : kindOf op <;> rw [hk] at h
    case index => simp [decodeAs] at h
    case diff => simp [decodeAs] at h
    case run => simp [decodeAs] at h
    case luma =>
      match rest, h with
      | [], h => exact ⟨by simpa [decodeAs] using h.symm, by simp [kindLength]⟩
      | _ :: _, h => simp [decodeAs] at h
    case rgb =>
      match rest, h with
      | [], h | [_], h | [_, _], h => exact ⟨by simpa [decodeAs] using h.symm, by simp [kindLength]⟩
      | _ :: _ :: _ :: _, h => simp [decodeAs] at h
    case rgba =>
      match rest, h with
      | [], h | [_], h | [_, _], h | [_, _, _], h => exact ⟨by simpa [decodeAs] using h.symm, by simp [kindLength]⟩
      | _ :: _ :: _ :: _ :: _, h => simp [decodeAs] at h

/-- A decoded instruction is its bytes' prefix: they split there, and more bytes behind them change nothing. -/
theorem decode_ok {bs rest : List Byte} {i : Instr} (h : decode bs = .ok (i, rest)) :
    ∃ front, bs = front ++ rest ∧ front.length = instrLength i ∧ ∀ more, decode (front ++ more) = .ok (i, more) := by
  match bs with
  | [] => simp [decode] at h
  | op :: tail =>
    simp only [decode] at h
    cases hk : kindOf op <;> rw [hk] at h
    case index | diff | run =>
      simp only [decodeAs, Except.ok.injEq, Prod.mk.injEq] at h
      obtain ⟨rfl, rfl⟩ := h
      exact ⟨[op], rfl, rfl, fun more => by simp [decode, hk, decodeAs]⟩
    case luma =>
      match tail, h with
      | [], h => simp [decodeAs] at h
      | b2 :: tail, h =>
        simp only [decodeAs, Except.ok.injEq, Prod.mk.injEq] at h
        obtain ⟨rfl, rfl⟩ := h
        exact ⟨[op, b2], rfl, rfl, fun more => by simp [decode, hk, decodeAs]⟩
    case rgb =>
      match tail, h with
      | [], h | [_], h | [_, _], h => simp [decodeAs] at h
      | r :: g :: b :: tail, h =>
        simp only [decodeAs, Except.ok.injEq, Prod.mk.injEq] at h
        obtain ⟨rfl, rfl⟩ := h
        exact ⟨[op, r, g, b], rfl, rfl, fun more => by simp [decode, hk, decodeAs]⟩
    case rgba =>
      match tail, h with
      | [], h | [_], h | [_, _], h | [_, _, _], h => simp [decodeAs] at h
      | r :: g :: b :: a :: tail, h =>
        simp only [decodeAs, Except.ok.injEq, Prod.mk.injEq] at h
        obtain ⟨rfl, rfl⟩ := h
        exact ⟨[op, r, g, b, a], rfl, rfl, fun more => by simp [decode, hk, decodeAs]⟩

/-- More bytes behind an opcode do not change it. -/
theorem decode_append {bs rest : List Byte} {i : Instr} (more : List Byte) (h : decode bs = .ok (i, rest)) :
    decode (bs ++ more) = .ok (i, rest ++ more) := by
  obtain ⟨front, rfl, -, hf⟩ := decode_ok h
  rw [List.append_assoc, hf]

/-- A decoded instruction's bytes are there. -/
theorem decode_length {bs rest : List Byte} {i : Instr} (h : decode bs = .ok (i, rest)) :
    bs.length = instrLength i + rest.length := by
  obtain ⟨front, rfl, hl, -⟩ := decode_ok h
  rw [List.length_append, hl]

end Sys2Proof.Machine
end

