-- ==== Sys2Proof/Laws/Ops.lean ====
section
/-! SUPPORT. What each shared operation can do, said once: the cache, the common end of a pixel, an instruction's meaning, and
each command. -/

namespace Sys2Proof.Machine

/-! The pixels of a session. -/

@[simp] theorem sessionPixels_header (rs : List Response) (w h : U32) (c cs : Byte) :
    sessionPixels (rs ++ [.header w h c cs]) = [] := by
  simp [sessionPixels, addSessionPixel]

@[simp] theorem sessionPixels_pixel (rs : List Response) (p : Pixel) :
    sessionPixels (rs ++ [.pixel p]) = sessionPixels rs ++ [p] := by
  simp [sessionPixels, addSessionPixel]

@[simp] theorem sessionPixels_error (rs : List Response) (code : ErrCode) (info : ErrInfo) :
    sessionPixels (rs ++ [.error code info]) = sessionPixels rs := by
  simp [sessionPixels, addSessionPixel]

@[simp] theorem sessionPixels_view (rs : List Response) (v : ViewValue) :
    sessionPixels (rs ++ [.view v]) = sessionPixels rs := by
  simp [sessionPixels, addSessionPixel]

/-! The colour cache. -/

/-- The update writes one whole entry and no other (R111). -/
theorem State.cacheGet_cacheSet (i j : BitVec 6) (p : Pixel) (s : State) :
    (s.cacheSet i p).cacheGet j = if j = i then p else s.cacheGet j := by
  simp only [State.cacheGet, State.cacheSet_cache, Vector.getElem_set, BitVec.toNat_inj, eq_comm (a := i)]

theorem State.cacheGet_produce (n : Nat) (p : Pixel) (j : BitVec 6) (s : State) :
    (s.produce n p).cacheGet j = if j = pixelHash p then p else s.cacheGet j :=
  State.cacheGet_cacheSet (pixelHash p) j p s

@[simp] theorem State.cacheGet_setRuncnt (v : U32) (j : BitVec 6) (s : State) :
    (s.setRuncnt v).cacheGet j = s.cacheGet j := rfl

/-! The common end of a pixel. -/

/-- PHASE after a pixel: DONE where EMITTED has reached TOTAL, else as before (R114). -/
theorem State.produce_phase_cases (n : Nat) (p : Pixel) (s : State) :
    (s.total = some (s.emitted + 1) ∧ (s.produce n p).phase = .done) ∨
    (s.total ≠ some (s.emitted + 1) ∧ (s.produce n p).phase = s.phase) := by
  by_cases h : s.total = some (s.emitted + 1)
  · exact .inl ⟨h, if_pos h⟩
  · exact .inr ⟨h, if_neg h⟩

/-! An instruction's meaning. -/

/-- The pixel an instruction makes (R144). -/
def pixelOf (i : Instr) (s : State) : Pixel :=
  match i with
  | .index k => s.cacheGet k
  | .diff ur ug ub => diffPixel ur ug ub s.prev
  | .luma ugreen urg ubg => lumaPixel ugreen urg ubg s.prev
  | .run _ => s.prev
  | .rgb r g b => { r := r, g := g, b := b, a := s.prev.a }
  | .rgba r g b a => { r := r, g := g, b := b, a := a }

/-- RUNCNT after an instruction (R144). -/
def runcntOf (i : Instr) (s : State) : U32 :=
  match i with
  | .run n => n.setWidth 32
  | .index _ => s.runcnt
  | .diff _ _ _ => s.runcnt
  | .luma _ _ _ => s.runcnt
  | .rgb _ _ _ => s.runcnt
  | .rgba _ _ _ _ => s.runcnt

/-- Every instruction is the common end of a pixel, at its length, its pixel and its RUNCNT, and completes in every state
(R145). -/
theorem exec_eq (i : Instr) (s : State) :
    exec i s = .next ((s.setRuncnt (runcntOf i s)).produce (instrLength i) (pixelOf i s)) := by
  cases i <;> rfl

/-- A run continuation is the same end, at length 0 (R107). -/
theorem continueRun_eq (s : State) : continueRun s = .next ((s.setRuncnt (s.runcnt - 1)).produce 0 s.prev) := rfl

/-! The commands. -/

/-- Everything NEXT can do (R106): continue a run, run the opcode that is there, raise on an exhausted source, or hold. -/
theorem nextPixel_cases (s : State) :
    (s.runcnt ≠ 0 ∧ nextPixel s = .done (continueRun s)) ∨
    (s.runcnt = 0 ∧ ∃ i rest, decode s.available = .ok (i, rest) ∧ nextPixel s = .done (exec i s)) ∨
    (s.runcnt = 0 ∧ s.available = [] ∧ s.exhausted = true ∧
      nextPixel s = .done (.next (s.raise .truncated .opcode 0))) ∨
    (s.runcnt = 0 ∧ s.exhausted = true ∧ ∃ op rest, s.available = op :: rest ∧
      s.available.length < kindLength (kindOf op) ∧
      nextPixel s = .done (.next ((s.consume s.available.length).raise .truncated .operand op))) ∨
    (s.runcnt = 0 ∧ s.exhausted = false ∧ (∃ e, decode s.available = .error e) ∧ nextPixel s = .hold) := by
  by_cases hr : s.runcnt = 0
  · have hn : nextPixel s = nextOpcode s := if_pos hr
    rw [hn]
    refine .inr ?_
    unfold nextOpcode
    cases hd : decode s.available with
    | ok v =>
      obtain ⟨i, rest⟩ := v
      exact .inl ⟨hr, i, rest, rfl, rfl⟩
    | error e =>
      rcases decode_error hd with ⟨ha, rfl⟩ | ⟨op, rest, ha, rfl, hlen⟩
      · cases he : s.exhausted
        · exact .inr (.inr (.inr ⟨hr, rfl, ⟨_, rfl⟩, by simp⟩))
        · exact .inr (.inl ⟨hr, ha, rfl, by simp [raised]⟩)
      · cases he : s.exhausted
        · exact .inr (.inr (.inr ⟨hr, rfl, ⟨_, rfl⟩, by simp⟩))
        · exact .inr (.inr (.inl ⟨hr, rfl, op, rest, ha, hlen, by simp [raised]⟩))
  · exact .inl ⟨hr, if_neg hr⟩

/-- What a command does after `InBytes(n)`: one case for each way the read ends. -/
theorem resolve_inBytes {P : Attempt → Prop} {n : Nat} {s : State} {onEos : State → Attempt}
    {onGot : List Byte → State → Attempt} (hold : s.exhausted = false → s.available.length < n → P .hold)
    (eos : s.available.length < n → P (onEos (s.consume s.available.length)))
    (got : n ≤ s.available.length → P (onGot (s.available.take n) (s.consume n))) :
    P ((inBytes n s).resolve onEos onGot) := by
  rcases Nat.lt_or_ge s.available.length n with hn | hn
  · cases he : s.exhausted
    · rw [inBytes_hold hn he]; exact hold he hn
    · rw [inBytes_short hn he]; exact eos hn
  · rw [inBytes_eq, if_pos hn]; exact got hn

/-- What a command does after `InByte()`. -/
theorem resolve_inByte {P : Attempt → Prop} {s : State} {onEos : State → Attempt} {onGot : Byte → State → Attempt}
    (hold : s.exhausted = false → s.available.length < 1 → P .hold)
    (eos : s.available.length < 1 → P (onEos s))
    (got : ∀ v, 1 ≤ s.available.length → P (onGot v (s.consume 1))) :
    P ((inByte s).resolve onEos onGot) := by
  rcases inByte_cases s with ⟨v, tail, ha, hb⟩ | ⟨ha, _, hb⟩ | ⟨ha, he, hb⟩ <;> rw [hb]
  · exact got v (by simp [ha])
  · exact eos (by simp [ha])
  · exact hold he (by simp [ha])

/-- How PARSE_HEADER, started in `s`, may end (R91): by holding, by raising past `k` bytes, or by storing the Header past
14 bytes. -/
def HeaderEnd (s : State) (a : Attempt) : Prop :=
  (s.exhausted = false ∧ s.available.length < 14 ∧ a = .hold) ∨
  (∃ code stage value k, k ≤ s.available.length ∧ k ≤ 14 ∧ code ≠ .none ∧
    a = raised code stage value (s.consume k)) ∨
  (∃ w h c cs, legalChannels c = true ∧ legalColorspace cs = true ∧ 14 ≤ s.available.length ∧
    a = .done (.next ((s.consume 14).storeHeader w h c cs)))

theorem checkHeader_end {s : State} (w h : List Byte) (c cs : Byte) (h14 : 14 ≤ s.available.length) :
    HeaderEnd s (checkHeader w h c cs (s.consume 14)) := by
  unfold checkHeader
  split
  · exact .inr (.inl ⟨_, _, _, 14, h14, le_refl _, by simp, rfl⟩)
  · split
    · exact .inr (.inl ⟨_, _, _, 14, h14, le_refl _, by simp, rfl⟩)
    · exact .inr (.inr ⟨_, _, _, _, by simp_all, by simp_all, h14, rfl⟩)

/-- Everything PARSE_HEADER can do. -/
theorem parseHeader_end (s : State) : HeaderEnd s (parseHeader s) := by
  have cut : ∀ {k : Nat} (code : ErrCode) (stage : Stage), k ≤ s.available.length → k ≤ 14 → code ≠ .none →
      HeaderEnd s (raised code stage 0 (s.consume k)) :=
    fun code stage hk h14 hc => .inr (.inl ⟨code, stage, 0, _, hk, h14, hc, rfl⟩)
  refine resolve_inBytes (fun he hn => .inl ⟨he, by omega, rfl⟩) (fun hn => cut _ _ (le_refl _) (by omega) (by simp))
    fun h4 => ?_
  split
  · exact cut _ _ h4 (by omega) (by simp)
  refine resolve_inBytes (fun he hn => ?_) (fun hn => ?_) fun h8 => resolve_inBytes (fun he hn => ?_) (fun hn => ?_)
    fun h12 => resolve_inByte (fun he hn => ?_) (fun hn => ?_) fun c h13 => resolve_inByte (fun he hn => ?_) (fun hn => ?_)
    fun cs h14 => ?_
  all_goals
    simp only [State.available_consume, State.consume_exhausted, State.consume_consume, List.length_drop,
      Nat.reduceAdd] at *
  any_goals exact .inl ⟨he, by omega, rfl⟩
  any_goals exact cut _ _ (by omega) (by omega) (by simp)
  exact checkHeader_end _ _ c cs (by omega)

end Sys2Proof.Machine
end

