-- ==== Sys2Proof/Laws/PerInstr.lean ====
section
/-! SUPPORT. Per-instruction facts about encodings, one lemma per constructor. -/

namespace Sys2Proof.Laws

/-- A well-formed instruction's bytes begin with an op byte of the kind whose length they have (30_encoding.md R72). -/
def OpByte.Statement (i : Instr) : Prop :=
  i.wellFormed = true →
    ∃ op data, encode i = op :: data ∧ data.length + 1 = kindLength (kindOf op) ∧
      kindLength (kindOf op) = instrLength i

theorem OpByte.index (i : BitVec 6) : OpByte.Statement (.index i) :=
  fun _ => ⟨_, _, rfl, by revert i; decide, by revert i; decide⟩

theorem OpByte.diff (ur ug ub : BitVec 2) : OpByte.Statement (.diff ur ug ub) :=
  fun _ => ⟨_, _, rfl, by revert ur ug ub; decide, by revert ur ug ub; decide⟩

theorem OpByte.luma (ugreen : BitVec 6) (urg ubg : BitVec 4) : OpByte.Statement (.luma ugreen urg ubg) := by
  have len : ∀ g : BitVec 6, kindLength (kindOf (0b10#2 ++ g)) = 2 := by decide
  exact fun _ => ⟨_, _, rfl, (len ugreen).symm, len ugreen⟩

theorem OpByte.run (n : BitVec 6) : OpByte.Statement (.run n) :=
  fun h => ⟨_, _, rfl, by revert n; simp only [List.length]; decide, by revert n; simp only [instrLength]; decide⟩

theorem OpByte.rgb (r g b : Byte) : OpByte.Statement (.rgb r g b) :=
  fun _ => ⟨_, _, rfl, rfl, rfl⟩

theorem OpByte.rgba (r g b a : Byte) : OpByte.Statement (.rgba r g b a) :=
  fun _ => ⟨_, _, rfl, rfl, rfl⟩

end Sys2Proof.Laws
end

