-- ==== Sys2Proof/Laws/Step.lean ====
section
/-! SUPPORT. Everything one step can do, said once: every statement about all steps goes by cases on `Move`. -/

namespace Sys2Proof.Machine

/-- What a step from `s` that answers a next state has done. -/
inductive Move (s : State) : State → Prop where
  /-- Nothing more comes from outside: idle, or held. -/
  | stay (hi : s.inputs = []) : Move s s
  /-- The byte source answered a byte. -/
  | byte (v : Byte) (rest : List Input) (hi : s.inputs = .byte v :: rest) : Move s ((s.withInputs rest).deliver v)
  /-- The byte source signalled its end. -/
  | eos (rest : List Input) (hi : s.inputs = .eos :: rest) : Move s (s.withInputs rest).exhaust
  /-- The host read the status view. -/
  | read (f : ViewField) (v : ViewValue) (rest : List Input) (hi : s.inputs = .read f :: rest)
      (hv : s.viewValue f = .ok v) : Move s ((s.withInputs rest).respond (.view v))
  /-- The host's RESET. -/
  | reset (rest : List Input) (hi : s.inputs = .command .reset :: rest) : Move s (s.withInputs rest).restart
  /-- A held RESET, which no run reaches. -/
  | heldReset (hh : s.held = some .reset) : Move s (s.setHeld none).restart
  /-- A command that PHASE does not admit. -/
  | refuse (c : Command) (rest : List Input) (hi : s.inputs = .command c :: rest) (hh : s.held = none)
      (ha : admits s.phase c = false) : Move s (s.withInputs rest).markRefused
  /-- A command that holds on the byte source. -/
  | hold (c : Command) (rest : List Input) (hc : c ≠ .reset) (hi : s.inputs = .command c :: rest) (hh : s.held = none)
      (ha : admits s.phase c = true) (hr : s.refused = false) (hw : attempt c (s.withInputs rest) = .hold) :
      Move s ((s.withInputs rest).setHeld (some c))
  /-- A command just issued that ends. -/
  | work (c : Command) (rest : List Input) (t : State) (hc : c ≠ .reset) (hi : s.inputs = .command c :: rest)
      (hh : s.held = none) (ha : admits s.phase c = true) (hr : s.refused = false)
      (hw : attempt c (s.withInputs rest) = .done (.next t)) : Move s t
  /-- A held command that ends. -/
  | resume (c : Command) (t : State) (hc : c ≠ .reset) (hh : s.held = some c)
      (hw : attempt c (s.setHeld none) = .done (.next t)) : Move s t

theorem issueWork_next {c : Command} {s t : State} (h : issueWork c s = .next t) :
    (admits s.phase c = false ∧ t = s.markRefused) ∨
    (admits s.phase c = true ∧ s.refused = false ∧
      ((attempt c s = .hold ∧ t = s.setHeld (some c)) ∨ attempt c s = .done (.next t))) := by
  unfold issueWork at h
  split at h
  · exact .inl ⟨‹_›, by simpa using h.symm⟩
  · split at h
    · simp at h
    · refine .inr ⟨by simp_all, by simp_all, ?_⟩
      unfold perform at h
      split at h
      · exact .inr (by simp_all)
      · exact .inl ⟨‹_›, by simpa using h.symm⟩

theorem takeInput_move {s t : State} (h : takeInput s = .next t) : Move s t := by
  unfold takeInput at h
  split at h
  case h_1 hi =>
    obtain rfl : s = t := by simpa using h
    exact .stay hi
  case h_2 i rest hi =>
    match i with
    | .byte v =>
      obtain rfl : _ = t := by simpa [receive] using h
      exact .byte v rest hi
    | .eos =>
      obtain rfl : _ = t := by simpa [receive] using h
      exact .eos rest hi
    | .read f =>
      simp only [receive, readView] at h
      split at h
      · simp at h
      · rename_i v hv
        obtain rfl : _ = t := by simpa using h
        exact .read f v rest hi hv
    | .command c =>
      simp only [receive, issue, State.withInputs_held] at h
      split at h
      · obtain rfl : _ = t := by simpa using h
        exact .reset rest hi
      · rcases issueWork_next h with ⟨ha, rfl⟩ | ⟨ha, hr, ⟨hw, rfl⟩ | hw⟩
        · exact .refuse _ rest hi ‹_› ha
        · exact .hold _ rest (by simp) hi ‹_› ha hr hw
        · exact .work _ rest t (by simp) hi ‹_› ha hr hw
      · rcases issueWork_next h with ⟨ha, rfl⟩ | ⟨ha, hr, ⟨hw, rfl⟩ | hw⟩
        · exact .refuse _ rest hi ‹_› ha
        · exact .hold _ rest (by simp) hi ‹_› ha hr hw
        · exact .work _ rest t (by simp) hi ‹_› ha hr hw
      · simp at h
      · simp at h

/-- Everything a step can do when it answers a next state. -/
theorem step_move {s t : State} (h : step s = .next t) : Move s t := by
  unfold step advance at h
  split at h
  · exact takeInput_move h
  · rename_i c hh
    split at h
    · rename_i a hw
      subst h
      by_cases hc : c = .reset
      · subst hc
        obtain rfl : _ = t := by simpa [attempt] using hw
        exact .heldReset hh
      · exact .resume c t hc hh hw
    · exact takeInput_move h

end Sys2Proof.Machine
end

