-- ==== Sys2Proof/Tests/Slice0.lean ====
section
/-! SUPPORT. Tests of single steps and functions against 95_test_vectors.md, and for each obligation with hypotheses a named
witness that meets them. Expected values come from the spec's vectors. -/

namespace Sys2Proof.Tests

open Sys2Proof Sys2Proof.Machine

/-! ## Helpers -/

/-- A session in phase PIXELS of a 2 x 2 image, with `bs` after the header and PREV `p`. -/
def session (p : Pixel) (bs : List Byte) : State :=
  { State.reset with
    prev := p, source := headerBytes 2 2 4 0 ++ bs, cursor := 14, width := some 2, height := some 2
    channels := some 4, colorspace := some 0, total := some 4, phase := .pixels, responses := [.header 2 2 4 0] }

/-- The same with the source exhausted after `bs`. -/
def cutSession (p : Pixel) (bs : List Byte) : State := { session p bs with exhausted := true }

/-- A session after `k` pixels, each `#010203FF` (h = 23), with `n` more of it owed; an earlier session gave one pixel. -/
def inRunAfter (k : Nat) (n : U32) : State :=
  { (session { r := 1, g := 2, b := 3, a := 255 } []).updateCache with
    runcnt := n
    emitted := BitVec.ofNat 64 k
    responses := [.header 1 1 4 0, .pixel Config.prevReset, .header 2 2 4 0] ++
      List.replicate k (.pixel { r := 1, g := 2, b := 3, a := 255 }) }

/-- The same after the session's first pixel. -/
def inRun (n : U32) : State := inRunAfter 1 n

/-- A fresh session with `bs` on the source. -/
def fresh (bs : List Byte) : State := { State.reset with source := bs }

/-- Takes what is next. -/
def nextOf : Answer → Option State
  | .next t => some t
  | .fault _ => none
  | .refused _ => none

/-- The answer of a command that ended. -/
def ended : Attempt → Option State
  | .done a => nextOf a
  | .hold => none

/-- The pixel, and the cache entry it went to, of a NEXT by step. -/
def pixelOfStep (s : State) : Option (Pixel × Pixel × BitVec 6) :=
  (nextOf (step { s with inputs := [.command .next] })).map
    fun t => (t.prev, t.cacheGet (pixelHash t.prev), pixelHash t.prev)

/-- ERRCODE and ERRINFO a command leaves. -/
def errorOf (a : Attempt) : Option (BitVec 2 × ErrInfo × Phase × Nat) :=
  (ended a).map fun t => (errorNumber t.errcode, t.errinfo, t.phase, t.cursor)

def black : Pixel := { r := 0, g := 0, b := 0, a := 255 }

/-! ## Well-formedness, decoding, encoding -/

theorem test_run_62_ill_formed : (Instr.run 62).wellFormed = false := by decide
theorem test_run_63_ill_formed : (Instr.run 63).wellFormed = false := by decide
theorem test_run_61_well_formed : (Instr.run 61).wellFormed = true := by decide

theorem test_decode_index : decode [0b00110101] = .ok (.index 53, []) := by decide
theorem test_decode_diff : decode [0b01010011] = .ok (.diff 1 0 3, []) := by decide
theorem test_decode_luma : decode [0b10010100, 0b00001111, 7] = .ok (.luma 20 0 15, [7]) := by decide
theorem test_decode_run : decode [0b11111101] = .ok (.run 61, []) := by decide
theorem test_decode_rgb : decode [0xFE, 1, 2, 3, 4] = .ok (.rgb 1 2 3, [4]) := by decide
theorem test_decode_rgba : decode [0xFF, 0x11, 0x22, 0x33, 0x44] = .ok (.rgba 0x11 0x22 0x33 0x44, []) := by decide
theorem test_decode_rgb_short : decode [0xFE, 1, 2] = .error (.operandMissing 0xFE) := by decide
theorem test_encode_luma : encode (.luma 20 0 15) = [0x94, 0x0F] := by decide
theorem test_table_word_luma : decodeTableWord 16 0x0F94 = some (.luma 20 0 15) := by decide
theorem test_table_word_rgba : decodeTableWord 40 0x44332211FF = some (.rgba 0x11 0x22 0x33 0x44) := by decide
/-- R85: `QOI_OP_DIFF -1,-2,1` is 0x53 (95_test_vectors.md P3). -/
theorem test_assemble_diff : (assemble (.diff (-1) (-2) 1)).map encode = some [0x53] := by decide
theorem test_assemble_run_too_long : assemble (.run 63) = none := by decide

/-! ## The hash (section 2.2) -/

theorem test_hash_black : pixelHash black = 53 := by decide
theorem test_hash_rgba : pixelHash { r := 0x11, g := 0x22, b := 0x33, a := 0x44 } = 46 := by decide

/-! ## One NEXT per opcode (sections 2.3 to 2.8) -/

/-- I2 -/
theorem test_index_unwritten :
    pixelOfStep (session black [0x35]) =
      some ({ r := 0, g := 0, b := 0, a := 0 }, { r := 0, g := 0, b := 0, a := 0 }, 0) := by decide
/-- I3 -/
theorem test_index_recalls :
    pixelOfStep (session { r := 0x11, g := 0x22, b := 0x33, a := 0x44 } [0x2E]).updateCache =
      some ({ r := 0x11, g := 0x22, b := 0x33, a := 0x44 }, { r := 0x11, g := 0x22, b := 0x33, a := 0x44 }, 46) := by decide
/-- D1 -/
theorem test_diff_underflow :
    pixelOfStep (session black [0x40]) =
      some ({ r := 0xFE, g := 0xFE, b := 0xFE, a := 0xFF }, { r := 0xFE, g := 0xFE, b := 0xFE, a := 0xFF }, 23) := by decide
/-- D5: the lanes in their order -/
theorem test_diff_lanes :
    pixelOfStep (session black [0x41]) =
      some ({ r := 0xFE, g := 0xFE, b := 0xFF, a := 0xFF }, { r := 0xFE, g := 0xFE, b := 0xFF, a := 0xFF }, 30) := by decide
/-- L1 -/
theorem test_luma_lowest :
    pixelOfStep (session black [0x80, 0x00]) =
      some ({ r := 0xD8, g := 0xE0, b := 0xD8, a := 0xFF }, { r := 0xD8, g := 0xE0, b := 0xD8, a := 0xFF }, 5) := by decide
/-- L6 -/
theorem test_luma_mixed :
    pixelOfStep (session { r := 0xFF, g := 0x02, b := 0x81, a := 0xFF } [0x94, 0x0F]) =
      some ({ r := 0xEB, g := 0xF6, b := 0x7C, a := 0xFF }, { r := 0xEB, g := 0xF6, b := 0x7C, a := 0xFF }, 40) := by decide
/-- G2 -/
theorem test_rgb_keeps_alpha :
    pixelOfStep (session { r := 0x11, g := 0x22, b := 0x33, a := 0x44 } [0xFE, 0x16, 0x00, 0x00]) =
      some ({ r := 0x16, g := 0, b := 0, a := 0x44 }, { r := 0x16, g := 0, b := 0, a := 0x44 }, 46) := by decide
/-- A2: accepted in a 3-channel stream -/
theorem test_rgba_in_rgb_stream :
    pixelOfStep { session black [0xFF, 0x11, 0x22, 0x33, 0x44] with channels := some 3 } =
      some ({ r := 0x11, g := 0x22, b := 0x33, a := 0x44 }, { r := 0x11, g := 0x22, b := 0x33, a := 0x44 }, 46) := by decide
/-- U3: the longest run -/
theorem test_run_longest :
    (ended (nextPixel (session black [0xFD]))).map (fun t => (t.prev, t.runcnt, t.cursor)) = some (black, 61, 15) := by
  decide
/-- U7: a continuation on an exhausted source -/
theorem test_continuation_exhausted :
    (ended (nextPixel { inRun 1 with exhausted := true })).map (fun t => (t.prev, t.runcnt, t.cursor, t.emitted)) =
      some ({ r := 1, g := 2, b := 3, a := 255 }, 0, 14, 2) := by decide
/-- U6: the last pixel ends the image with a pixel still owed -/
theorem test_run_past_the_end :
    (ended (nextPixel { inRun 2 with emitted := 3 })).map (fun t => (t.phase, t.runcnt, t.emitted)) = some (.done, 1, 4) := by
  decide
/-- L8 -/
theorem test_luma_cut :
    errorOf (nextPixel (cutSession black [0x94])) =
      some (3, { stage := .operand, value := 0x94, offset := 15, pixel := 0 }, .error, 15) := by decide
/-- T1 -/
theorem test_opcode_missing :
    errorOf (nextPixel { inRun 0 with exhausted := true }) =
      some (3, { stage := .opcode, value := 0, offset := 14, pixel := 1 }, .error, 14) := by decide

/-! ## PARSE_HEADER (section 2.1) -/

/-- H1 -/
theorem test_header_good :
    let a := ended (parseHeader (fresh [0x71, 0x6F, 0x69, 0x66, 0, 0, 0, 1, 0, 0, 0, 2, 4, 0]))
    a.map (fun t => (t.width, t.height, t.channels, t.colorspace)) = some (some 1, some 2, some 4, some 0) ∧
    a.map (fun t => (t.total, t.phase, t.cursor)) = some (some 2, .pixels, 14) := by decide
/-- H2 -/
theorem test_header_largest :
    (ended (parseHeader (fresh
      [0x71, 0x6F, 0x69, 0x66, 0xFF, 0xFF, 0xFF, 0xFF, 0xFF, 0xFF, 0xFF, 0xFF, 3, 1]))).map (fun t => t.total) =
      some (some 18446744065119617025) := by decide
/-- H3 -/
theorem test_header_empty_image :
    (ended (parseHeader (fresh [0x71, 0x6F, 0x69, 0x66, 0, 0, 0, 0, 0, 0, 0, 5, 3, 0, 0xFE, 1, 2, 3]))).map
      (fun t => (t.phase, t.cursor, t.total)) = some (.done, 14, some 0) := by decide
/-- H4 -/
theorem test_header_bad_magic :
    errorOf (parseHeader (fresh [0x71, 0x6F, 0x69, 0x46, 0, 0, 0, 1, 0, 0, 0, 2, 4, 0])) =
      some (1, { stage := .magic, value := 0, offset := 4, pixel := 0 }, .error, 4) := by decide
/-- H7 -/
theorem test_header_cut :
    errorOf (parseHeader { fresh [0x71, 0x6F, 0x69, 0x66, 0, 0, 0] with exhausted := true }) =
      some (3, { stage := .header, value := 0, offset := 7, pixel := 0 }, .error, 7) := by decide
/-- H8 -/
theorem test_header_cut_at_13 :
    errorOf (parseHeader { fresh [0x71, 0x6F, 0x69, 0x66, 0, 0, 0, 1, 0, 0, 0, 1, 4] with exhausted := true }) =
      some (3, { stage := .header, value := 0, offset := 13, pixel := 0 }, .error, 13) := by decide
/-- H11 -/
theorem test_header_channels_first :
    errorOf (parseHeader (fresh [0x71, 0x6F, 0x69, 0x66, 0, 0, 0, 1, 0, 0, 0, 1, 0, 9])) =
      some (2, { stage := .channels, value := 0, offset := 14, pixel := 0 }, .error, 14) := by decide
/-- H10 -/
theorem test_header_bad_colorspace :
    errorOf (parseHeader (fresh [0x71, 0x6F, 0x69, 0x66, 0, 0, 0, 1, 0, 0, 0, 1, 4, 2])) =
      some (2, { stage := .colorspace, value := 2, offset := 14, pixel := 0 }, .error, 14) := by decide

/-! ## Steps -/

/-- T3 -/
theorem test_next_in_header_refused :
    (nextOf (step { fresh [0xC0] with inputs := [.command .next] })).map (fun t => (t.refused, t.phase, t.cursor)) =
      some (true, .header, 0) := by decide
/-- R50: the command holds, CURSOR as before -/
theorem test_next_holds :
    (nextOf (step { session black [0xFE, 1] with inputs := [.command .next] })).map (fun t => (t.held, t.cursor)) =
      some (some .next, 14) := by decide
/-- R175 -/
theorem test_reset_aborts_held :
    (nextOf (step { session black [0xFE] with held := some .next, inputs := [.command .reset] })).map
      (fun t => (t.held, t.phase, t.cursor, t.total)) = some (none, .header, 0, none) := by decide
/-- R37 -/
theorem test_read_width_faults : step { State.reset with inputs := [.read .width] } = .fault (.noValue .width) := rfl
/-- The host's probe: INDEX 5 as the first instruction after reset (R128). -/
theorem test_fetch_word_runs :
    (nextOf (step (State.reset.withFetchWord 8 0x05))).map (fun t => (t.prev, t.cursor, t.emitted)) =
      some ({ r := 0, g := 0, b := 0, a := 0 }, 15, 1) := by decide
theorem test_fetch_word_placed :
    decode (State.reset.withFetchWord 32 0x030201FE).available = .ok (.rgb 1 2 3, [0]) := by decide

/-! ## Witnesses: each meets the hypotheses of the obligation it is named after -/

theorem witness_DecodeOfEncodeIsIdentity : (Instr.run 61).wellFormed = true := by decide

theorem witness_DecodedBytesAreItsEncoding : decode [0xFD, 7] = .ok (.run 61, [7]) := by decide

theorem witness_OpByteSelectsItsKind :
    decode [0x00] = .ok (.index 0, []) ∧ decode [0x3F] = .ok (.index 63, []) ∧ decode [0x40] = .ok (.diff 0 0 0, []) ∧
    decode [0x7F] = .ok (.diff 3 3 3, []) ∧ decode [0x80, 0] = .ok (.luma 0 0 0, []) ∧
    decode [0xBF, 0xFF] = .ok (.luma 63 15 15, []) ∧ decode [0xC0] = .ok (.run 0, []) ∧
    decode [0xFD] = .ok (.run 61, []) ∧ decode [0xFE, 0, 0, 0] = .ok (.rgb 0 0 0, []) ∧
    decode [0xFF, 0, 0, 0, 0] = .ok (.rgba 0 0 0 0, []) := by decide

theorem witness_OnlyMissingBytesFailToDecode :
    kindLength (kindOf 0xFE) ≤ [(1 : Byte), 2, 3].length + 1 ∧ [(1 : Byte), 2].length + 1 < kindLength (kindOf 0xFE) := by
  decide

theorem witness_AssemblyAndInstructionsAgree :
    assemble (.luma (-32) 7 (-8)) = some (.luma 0 15 0) ∧ (Instr.run 0).wellFormed = true := by decide

theorem witness_HoldUntilTheSourceAnswers :
    (session black [0xFE]).source[(session black [0xFE]).cursor]? = some 0xFE ∧
    (cutSession black []).source[(cutSession black []).cursor]? = none ∧ (cutSession black []).exhausted = true ∧
    (session black []).exhausted = false ∧ admits (session black [0xFE]).phase .next = true ∧
    attempt .next (session black [0xFE]) = .hold := ⟨rfl, rfl, rfl, rfl, rfl, rfl⟩

theorem witness_ExhaustionIsFinal :
    ∃ t, (cutSession black []).exhausted = true ∧ step { cutSession black [] with inputs := [.byte 1] } = .next t ∧
      t.source.length = 14 := ⟨_, rfl, rfl, by decide⟩

theorem witness_StreamIsNeverWritten :
    ∃ t, step { session black [] with inputs := [.byte 7] } = .next t ∧ t.source.length = 15 := ⟨_, rfl, by decide⟩

theorem witness_StreamIsReadInOrder :
    ∃ t, inByte (session black [0xC0]) = .got 0xC0 t ∧
      ∃ u, step { session black [0xC0] with inputs := [.command .next] } = .next u ∧ u.cursor = 15 :=
  ⟨_, rfl, _, rfl, by decide⟩

theorem witness_BytesReadPerCommand :
    (∃ t, parseHeader (fresh (headerBytes 1 2 4 0)) = .done (.next t) ∧ t.phase ≠ .error) ∧
    (∃ t, nextPixel (session black [0xFF, 1, 2, 3, 4]) = .done (.next t) ∧ t.phase ≠ .error) ∧
    (∃ t, nextPixel (inRun 1) = .done (.next t) ∧ t.phase ≠ .error) :=
  ⟨⟨_, rfl, by decide⟩, ⟨_, rfl, by decide⟩, ⟨_, rfl, by decide⟩⟩

theorem witness_LaterBytesChangeNoResult :
    ∃ t, (session black [0xC0]).exhausted = false ∧ attempt .next (session black [0xC0]) = .done (.next t) :=
  ⟨_, rfl, rfl⟩

theorem witness_HeaderStoresWidthAndHeight :
    (fresh (headerBytes 0x01020304 0xFFFFFFFF 3 1)).available =
      [0x71, 0x6F, 0x69, 0x66, 1, 2, 3, 4, 0xFF, 0xFF, 0xFF, 0xFF, 3, 1] ++ [] := by decide

theorem witness_HeaderRoundTrip :
    (fresh (headerBytes 0 5 3 0 ++ [0xFE])).available = headerBytes 0 5 3 0 ++ [0xFE] := rfl

theorem witness_BadMagicIsFormatError :
    (fresh [1, 2, 3, 4]).source.take 4 ≠ [0x71, 0x6F, 0x69, 0x66] ∧ 4 ≤ (fresh [1, 2, 3, 4]).source.length ∧
    ({ fresh [0x71] with exhausted := true }).source.take 4 ≠ [0x71, 0x6F, 0x69, 0x66] ∧
    (∃ t, nextPixel (session black [0xC0]) = .done (.next t)) ∧ (session black [0xC0]).errcode ≠ .format :=
  ⟨by decide, by decide, by decide, ⟨_, rfl⟩, by decide⟩

theorem witness_BadChannelsIsUnsupported :
    (fresh (headerBytes 1 2 5 0)).source = headerBytes 1 2 5 0 ++ [] ∧ (5 : Byte) ≠ 3 ∧ (5 : Byte) ≠ 4 ∧
    (∃ t, nextPixel (session black [0xC0]) = .done (.next t)) := ⟨by decide, by decide, by decide, ⟨_, rfl⟩⟩

theorem witness_BadColorspaceIsUnsupported :
    (fresh (headerBytes 1 1 4 2)).source = headerBytes 1 1 4 2 ++ [] ∧ (2 : Byte) ≠ 0 ∧ (2 : Byte) ≠ 1 := by decide

theorem witness_CutHeaderIsTruncated :
    ({ fresh [0x71, 0x6F, 0x69, 0x66] with exhausted := true }).source.take 4 = [0x71, 0x6F, 0x69, 0x66] ∧
    ((headerBytes 1 1 4 0).take 13).take 4 = [0x71, 0x6F, 0x69, 0x66] ∧ ((headerBytes 1 1 4 0).take 13).length < 14 := by
  decide

theorem witness_HeaderFrame :
    (∃ t, parseHeader (fresh (headerBytes 1 2 4 0)) = .done (.next t) ∧ t.phase ≠ .error) ∧
    (∃ t, parseHeader (fresh (headerBytes 1 2 5 0)) = .done (.next t) ∧ t.phase = .error) :=
  ⟨⟨_, rfl, by decide⟩, ⟨_, rfl, by decide⟩⟩

theorem witness_ChannelArithmeticWraps :
    addDelta 0 (-2) = 254 ∧ addDelta 255 2 = 1 := ⟨by decide, by decide⟩

theorem witness_IndexLoadsTheCacheEntry : ∃ t, exec (.index 63) (session black []) = .next t ∧ t.emitted = 1 := ⟨_, rfl, rfl⟩
theorem witness_DiffAddsSmallDeltas : ∃ t, exec (.diff 3 0 1) (session black []) = .next t ∧ t.emitted = 1 := ⟨_, rfl, rfl⟩
theorem witness_LumaAddsGreenRelativeDeltas :
    (∃ t, exec (.luma 63 15 0) (session black []) = .next t ∧ t.emitted = 1) ∧
    (cutSession black [0x80]).runcnt = 0 ∧ (cutSession black [0x80]).exhausted = true ∧
    (cutSession black [0x80]).available = [(0b10#2 ++ 0b000000#6 : BitVec 8)] := ⟨⟨_, rfl, rfl⟩, rfl, rfl, by decide⟩
theorem witness_RgbReplacesColours :
    (∃ t, exec (.rgb 1 2 3) (session black []) = .next t ∧ t.emitted = 1) ∧
    (cutSession black [0xFE, 1, 2]).available = 0xFE :: [1, 2] := ⟨⟨_, rfl, rfl⟩, by decide⟩
theorem witness_RgbaReplacesAllChannels :
    (∃ t, exec (.rgba 1 2 3 4) (session black []) = .next t ∧ t.emitted = 1) ∧
    (cutSession black [0xFF, 1, 2, 3]).available = 0xFF :: [1, 2, 3] := ⟨⟨_, rfl, rfl⟩, by decide⟩
theorem witness_RunSetsTheRunCount : ∃ t, exec (.run 61) (session black []) = .next t ∧ t.runcnt = 61 := ⟨_, rfl, by decide⟩

theorem witness_RunEmitsItsWholeLength :
    let s : State :=
      { session black [0b11000011] with inputs := [.command .next, .command .next, .command .next, .command .next] }
    s.phase = .pixels ∧ s.refused = false ∧ s.held = none ∧ s.runcnt = 0 ∧ s.total = some 4 ∧
      s.emitted.toNat + (3 : BitVec 6).toNat + 1 ≤ (4 : U64).toNat ∧
      s.available = (0b11#2 ++ (3 : BitVec 6) : BitVec 8) :: [] ∧
      s.inputs = List.replicate ((3 : BitVec 6).toNat + 1) (.command .next) ++ [] := by decide

theorem witness_RunContinuationReadsNoByte :
    (inRun 61).runcnt ≠ 0 ∧ (inRun 1).runcnt ≠ 0 := by decide

theorem witness_OpcodeFrame :
    ∃ t, exec (.rgba 0x11 0x22 0x33 0x44) (session black []) = .next t ∧ t.cursor = 19 := ⟨_, rfl, rfl⟩

/-- A NEXT that emits and one that raises, both from phase PIXELS. -/
theorem witness_EveryPixelUpdatesTheCache :
    (session black [0x40]).phase = .pixels ∧
    (∃ t, nextPixel (session black [0x40]) = .done (.next t) ∧ t.phase ≠ .error) ∧
    (∃ t, nextPixel (cutSession black [0x80]) = .done (.next t) ∧ t.phase = .error) :=
  ⟨rfl, ⟨_, rfl, by decide⟩, ⟨_, rfl, by decide⟩⟩

theorem witness_HashOfANarrowSumIsTheSame : (6 : Nat) ≤ 6 := le_refl _

theorem witness_NextEmitsPrevious :
    ∃ t, nextPixel (session black [0xFE, 1, 2, 3]) = .done (.next t) ∧ t.phase ≠ .error := ⟨_, rfl, by decide⟩

/-- A session in the middle of a run meets the invariant, after its first and before its last pixel. -/
theorem inRunAfter_meets_invariant (k : Nat) (hk : k = 1 ∨ k = 3) (n : U32) (hn : n.toNat ≤ 61) :
    Invariant (inRunAfter k n) where
  runcnt_le := hn
  header_known := fun _ => ⟨2, 2, 4, 0, rfl, rfl, rfl, rfl, .inr rfl, .inl rfl, rfl, le_refl 14⟩
  pixels_left := fun _ t ht => by
    obtain rfl : (4 : U64) = t := Option.some.inj ht
    rcases hk with rfl | rfl
    · exact (by decide : (1 : U64).toNat < (4 : U64).toNat)
    · exact (by decide : (3 : U64).toNat < (4 : U64).toNat)
  all_emitted := fun h => absurd (show Phase.pixels = .done from h) (by decide)
  header_fresh := fun h => absurd (show Phase.pixels = .header from h) (by decide)
  error_iff := (by decide : ErrCode.none ≠ ErrCode.none ↔ Phase.pixels = .error)
  emitted_le := fun t ht => by
    obtain rfl : (4 : U64) = t := Option.some.inj ht
    rcases hk with rfl | rfl
    · exact (by decide : (1 : U64).toNat ≤ (4 : U64).toNat)
    · exact (by decide : (3 : U64).toNat ≤ (4 : U64).toNat)
  cursor_le := le_refl 14
  run_after_pixel := fun _ => by
    rcases hk with rfl | rfl
    · exact (by decide : (1 : U64) ≠ 0)
    · exact (by decide : (3 : U64) ≠ 0)
  prev_cached := fun _ =>
    (by decide : (inRun 0).cacheGet (pixelHash (inRun 0).prev) = (inRun 0).prev)
  header_unknown := fun h => absurd (show Phase.pixels = .header from h) (by decide)
  no_error_info := fun _ => rfl
  held_admitted := fun c h => absurd (show none = some c from h) (by simp)
  session_counted := fun _ => by rcases hk with rfl | rfl <;> rfl

theorem inRun_meets_invariant (n : U32) (hn : n.toNat ≤ 61) : Invariant (inRun n) :=
  inRunAfter_meets_invariant 1 (.inl rfl) n hn

theorem witness_ImageEndsAtTotal :
    Invariant (inRun 1) ∧ (inRun 1).phase = .pixels ∧
    (∃ t, nextPixel (inRun 1) = .done (.next t) ∧ t.phase ≠ .error) ∧
    Invariant (inRunAfter 3 1) ∧
    (∃ t, nextPixel (inRunAfter 3 1) = .done (.next t) ∧ t.phase = .done ∧ t.held = none) :=
  ⟨inRun_meets_invariant 1 (by decide), rfl, ⟨_, rfl, by decide⟩, inRunAfter_meets_invariant 3 (.inr rfl) 1 (by decide),
    ⟨_, rfl, by decide, by decide⟩⟩

theorem witness_MissingOpByteIsTruncated :
    (cutSession black []).runcnt = 0 ∧ (cutSession black []).exhausted = true ∧
    (cutSession black []).cursor = (cutSession black []).source.length ∧
    (inRun 1).runcnt ≠ 0 ∧ ∃ t, nextPixel (inRun 1) = .done (.next t) :=
  ⟨rfl, rfl, by decide, by decide, ⟨_, rfl⟩⟩

theorem witness_MissingDataByteIsTruncated :
    (∃ t, nextPixel (cutSession black [0x80]) = .done (.next t) ∧ t.phase = .error) ∧
    (cutSession black [0xFF, 1, 2, 3]).available = 0xFF :: [1, 2, 3] ∧ kindOf 0xFF = .rgba ∧
    [(1 : Byte), 2, 3].length + 1 < kindLength (kindOf 0xFF) ∧
    (cutSession black [0xFD]).available = 0xFD :: [] ∧ kindOf 0xFD = .run :=
  ⟨⟨_, rfl, by decide⟩, by decide, by decide, by decide, by decide, by decide⟩

theorem witness_RaisingChangesOnlyTheStatus :
    (cutSession black [0xFE, 1, 2]).phase ≠ .error ∧
    ∃ t, attempt .next (cutSession black [0xFE, 1, 2]) = .done (.next t) ∧ t.phase = .error :=
  ⟨by decide, _, rfl, by decide⟩

theorem witness_NextFailsOnlyByTruncation :
    ∃ t, nextPixel (cutSession black [0x80]) = .done (.next t) ∧ t.phase = .error := ⟨_, rfl, by decide⟩

theorem witness_HeaderFieldsTakeNoPartInNext : ∃ t, nextPixel (session black [0xFF, 1, 2, 3, 4]) = .done (.next t) := ⟨_, rfl⟩

theorem witness_RunContinuationKeepsTheCache :
    Invariant (inRun 61) ∧ (inRun 61).phase = .pixels ∧ (inRun 61).runcnt ≠ 0 ∧
    ∃ t, nextPixel (inRun 61) = .done (.next t) :=
  ⟨inRun_meets_invariant 61 (by decide), rfl, by decide, ⟨_, rfl⟩⟩

theorem witness_IndexYieldsTheLatestPixel :
    ∃ t, nextPixel (session black [0x7F]) = .done (.next t) ∧ t.phase ≠ .error := ⟨_, rfl, by decide⟩

theorem witness_PixelsComeInRowMajorOrder :
    Invariant (inRun 1) ∧ (inRun 1).phase = .pixels ∧
    (∃ t, nextPixel (inRun 1) = .done (.next t) ∧ t.phase ≠ .error) ∧
    Invariant (inRunAfter 3 1) ∧ (inRunAfter 3 1).phase = .pixels ∧
    ∃ t, nextPixel (inRunAfter 3 1) = .done (.next t) ∧ t.phase ≠ .error :=
  ⟨inRun_meets_invariant 1 (by decide), rfl, ⟨_, rfl, by decide⟩, inRunAfter_meets_invariant 3 (.inr rfl) 1 (by decide), rfl,
    _, rfl, by decide⟩

theorem witness_StepRunsTheDecodedInstruction :
    (session black [0x05]).runcnt = 0 ∧ decode (session black [0x05]).available = .ok (.index 5, []) ∧
    (session black [0x05]).held = none ∧ (session black [0x05]).phase = .pixels ∧ (session black [0x05]).refused = false :=
  ⟨rfl, by decide, rfl, rfl, rfl⟩

theorem witness_StepContinuesTheRun :
    (inRun 1).runcnt ≠ 0 ∧ (inRun 1).held = none ∧ (inRun 1).phase = .pixels ∧ (inRun 1).refused = false := by decide

theorem witness_RefusedCommandOnlyMarks :
    (session black []).held = none ∧ (session black []).phase ≠ .header ∧ State.reset.phase ≠ .pixels := by decide

theorem witness_CommandsWithoutMeaningStop :
    admits ({ session black [] with refused := true }).phase .next = true ∧
    attempt .next { { session black [0xFE] with held := some .next } with held := none } = .hold := ⟨rfl, rfl⟩

theorem witness_RefusedIsSticky :
    ∃ t, step { session black [] with refused := true, inputs := [.byte 1] } = .next t ∧ t.refused = true := ⟨_, rfl, rfl⟩

/-- An ERROR state that meets the invariant. -/
def inError : State :=
  { State.reset with phase := .error, errcode := .format, errinfo := { stage := .magic, value := 0, offset := 0, pixel := 0 } }

theorem inError_meets_invariant : Invariant inError where
  runcnt_le := by decide
  header_known := fun h => by simp [inError] at h
  pixels_left := fun h => by simp [inError] at h
  all_emitted := fun h => by simp [inError] at h
  header_fresh := fun h => by simp [inError] at h
  error_iff := by simp [inError]
  emitted_le := fun t h => by simp [inError, State.reset] at h
  cursor_le := by decide
  run_after_pixel := fun h => absurd rfl h
  prev_cached := fun h => absurd rfl h
  header_unknown := fun h => by simp [inError] at h
  no_error_info := fun h => by simp [inError] at h
  held_admitted := fun c h => by simp [inError, State.reset] at h
  session_counted := fun h => absurd rfl h

theorem witness_ErrorsAreTerminal : Invariant inError ∧ inError.phase = .error ∧ ∃ t, step inError = .next t :=
  ⟨inError_meets_invariant, rfl, _, rfl⟩

theorem witness_HeaderIsImmutableOnceParsed :
    Invariant (inRun 1) ∧ ∃ t, step (inRun 1) = .next t := ⟨inRun_meets_invariant 1 (by decide), _, rfl⟩

theorem witness_ResetCommandStartsAfresh :
    attempt .next { { session black [0xFE] with held := some .next } with held := none } = .hold ∧
    (session black []).held = none := ⟨rfl, rfl⟩

/-- Idle, and with a NEXT that holds on its second byte. -/
theorem witness_StatusViewIsReadOnly :
    (session black []).held = none ∧ (session black []).viewValue .width = .ok (.width 2) ∧ State.reset.width = none ∧
    attempt .next { { session black [0x80] with held := some .next } with held := none } = .hold ∧
    attempt .parseHeader { { State.reset with held := some .parseHeader } with held := none } = .hold :=
  ⟨rfl, rfl, rfl, rfl, rfl⟩

theorem witness_IdleBlockStaysAsItIs : (session black []).held = none ∧ (session black []).inputs = [] := ⟨rfl, rfl⟩

theorem witness_EveryStepKeepsTheInvariant :
    Invariant (inRun 2) ∧ ∃ t, step (inRun 2) = .next t := ⟨inRun_meets_invariant 2 (by decide), _, rfl⟩

theorem witness_StopsAreOnlyTheNamedOnes :
    step { inError with inputs := [.read .height] } = .fault (.noValue .height) ∧
    step { session black [] with refused := true, inputs := [.command .next] } = .refused (.afterRefused .next) ∧
    step { session black [] with held := some .next, inputs := [.command .next] } = .refused (.concurrentCommand .next) :=
  ⟨rfl, rfl, rfl⟩

/-- A good header and a bad one, an opcode and a cut one, each just issued and held. -/
theorem witness_StepPerformsTheCommand :
    (∃ t, parseHeader (fresh (headerBytes 2 1 4 0)) = .done (.next t) ∧ t.phase = .pixels) ∧
    (∃ t, parseHeader (fresh (headerBytes 2 1 5 0)) = .done (.next t) ∧ t.phase = .error) ∧
    (∃ t, nextPixel (session black [0x05]) = .done (.next t) ∧ t.phase = .pixels) ∧
    (∃ t, nextPixel (cutSession black [0xFE]) = .done (.next t) ∧ t.phase = .error) ∧
    (fresh []).held = none ∧ (fresh []).refused = false ∧ (fresh []).phase = .header ∧ (cutSession black [0xFE]).held = none ∧
    (cutSession black [0xFE]).refused = false ∧ (cutSession black [0xFE]).phase = .pixels ∧
    (∃ t, parseHeader { { fresh (headerBytes 2 1 4 0) with held := some .parseHeader } with held := none } =
      .done (.next t)) ∧
    (∃ t, nextPixel { { cutSession black [0xFE] with held := some .next } with held := none } = .done (.next t)) :=
  ⟨⟨_, rfl, by decide⟩, ⟨_, rfl, by decide⟩, ⟨_, rfl, by decide⟩, ⟨_, rfl, by decide⟩, rfl, rfl, rfl, rfl, rfl, rfl,
    ⟨_, rfl⟩, ⟨_, rfl⟩⟩

theorem witness_SourceAnswersAreTaken :
    (session black []).held = none ∧ (session black []).exhausted = false ∧ (cutSession black []).exhausted = true ∧
    attempt .next { { session black [0xFE, 1] with held := some .next } with held := none } = .hold :=
  ⟨rfl, rfl, rfl, rfl⟩

/-- A cut opcode by step: the raise is not dropped (L8). -/
theorem test_step_raises :
    (nextOf (step { cutSession black [0x94] with inputs := [.command .next] })).map (fun t => (t.phase, t.errcode, t.cursor)) =
      some (.error, .truncated, 15) := by decide

/-- PARSE_HEADER by step enters PIXELS (H1). -/
theorem test_step_parses :
    (nextOf (step { fresh (headerBytes 1 2 4 0) with inputs := [.command .parseHeader] })).map (fun t => (t.phase, t.cursor)) =
      some (.pixels, 14) := by decide

end Sys2Proof.Tests
end

section
/-! Proofs about the hash of 00_scope.md R16: what the 6-bit cache index is as a number. -/
namespace Sys2Proof.Machine

/-- The reduction modulo 64 is what the six bits of a cache index hold, so forming the index loses nothing (R16). -/
theorem pixelHash_toNat (p : Pixel) : (pixelHash p).toNat = hashSum p % 64 := by
  have fits : hashSum p % 64 < 2 ^ 6 := Nat.mod_lt _ (by decide)
  rw [pixelHash, BitVec.toNat_ofNat, Nat.mod_eq_of_lt fits]

/-- A cache index is always in 0..63 (R112). -/
theorem pixelHash_toNat_le (p : Pixel) : (pixelHash p).toNat ≤ 63 :=
  Nat.le_of_lt_succ (pixelHash p).isLt

/-- Settles O32: the index is the weighted sum of the channels reduced modulo 64, and six bits bound it. -/
theorem hashIsTheWeightedSum : Obligations.HashIsTheWeightedSum := fun p =>
  ⟨pixelHash_toNat p, pixelHash_toNat_le p⟩

end Sys2Proof.Machine
end

section
/-! Proofs about the header registers of 10_state.md R30: what each command, and then each step, does to WIDTH, HEIGHT,
CHANNELS, COLORSPACE and TOTAL. -/
namespace Sys2Proof.Machine

/-- `t` holds the header registers and TOTAL of `s` (R30). -/
def SameHeader (s t : State) : Prop :=
  t.width = s.width ∧ t.height = s.height ∧ t.channels = s.channels ∧ t.colorspace = s.colorspace ∧ t.total = s.total

/-- A successful PARSE_HEADER leaves phase HEADER, for an image with pixels and for an empty one (R98). -/
theorem phaseAfterHeader_cases (total : U64) :
    phaseAfterHeader total = .pixels ∨ phaseAfterHeader total = .done := by
  unfold phaseAfterHeader
  split
  · exact .inr rfl
  · exact .inl rfl

/-- PARSE_HEADER is admitted in phase HEADER alone, which is why a session parses at most one header (R33). -/
theorem phase_of_admits_parseHeader {p : Phase} (h : admits p .parseHeader = true) : p = .header := by
  cases p with
  | header => rfl
  | pixels | done | error => simp [admits] at h

/-- However NEXT ends, with a pixel or with an error, the header registers stay. -/
theorem nextPixel_sameHeader {s t : State} (h : nextPixel s = .done (.next t)) : SameHeader s t := by
  rcases nextPixel_cases s with ⟨-, hn⟩ | ⟨-, i, _, -, hn⟩ | ⟨-, -, -, hn⟩ | ⟨-, -, _, _, -, -, hn⟩ | ⟨-, -, -, hn⟩ <;>
    rw [hn] at h
  · rw [continueRun_eq] at h
    cases h
    exact ⟨rfl, rfl, rfl, rfl, rfl⟩
  · rw [exec_eq] at h
    cases h
    exact ⟨rfl, rfl, rfl, rfl, rfl⟩
  · cases h
    exact ⟨rfl, rfl, rfl, rfl, rfl⟩
  · cases h
    exact ⟨rfl, rfl, rfl, rfl, rfl⟩
  · cases h

/-- A PARSE_HEADER that raises leaves the header registers; one that stores the Header leaves phase HEADER. -/
theorem parseHeader_sameHeader_or_parsed {s t : State} (h : parseHeader s = .done (.next t)) :
    SameHeader s t ∨ t.phase = .pixels ∨ t.phase = .done := by
  rcases parseHeader_end s with ⟨-, -, hp⟩ | ⟨_, _, _, _, -, -, -, hp⟩ | ⟨_, _, _, _, -, -, -, hp⟩ <;> rw [hp] at h
  · cases h
  · cases h
    exact .inl ⟨rfl, rfl, rfl, rfl, rfl⟩
  · cases h
    exact .inr (phaseAfterHeader_cases _)

/-- An admitted command other than RESET leaves the header registers, or is the PARSE_HEADER that succeeds. -/
theorem attempt_sameHeader_or_parsed {c : Command} {s t : State} (hc : c ≠ .reset) (ha : admits s.phase c = true)
    (h : attempt c s = .done (.next t)) :
    SameHeader s t ∨ (s.phase = .header ∧ (t.phase = .pixels ∨ t.phase = .done)) := by
  cases c with
  | reset => exact absurd rfl hc
  | parseHeader =>
    exact (parseHeader_sameHeader_or_parsed h).imp_right fun parsed => ⟨phase_of_admits_parseHeader ha, parsed⟩
  | next => exact .inl (nextPixel_sameHeader h)

/-- Settles O50, by cases on what the step has done: the invariant admits every held command and holds no RESET, so only a
PARSE_HEADER in phase HEADER and the host's own RESET write the header registers. -/
theorem headerIsImmutableOnceParsed : Obligations.HeaderIsImmutableOnceParsed := by
  intro s t hinv hstep
  cases step_move hstep with
  | stay | byte | eos | read | refuse | hold => exact .inl ⟨rfl, rfl, rfl, rfl, rfl⟩
  | reset rest hi => exact .inr (.inr ⟨⟨rest, hi⟩, rfl, rfl, rfl, rfl, rfl⟩)
  | heldReset hh => exact absurd rfl (hinv.held_admitted _ hh).1
  | work c rest _ hc hi hh ha hr hw =>
    exact (attempt_sameHeader_or_parsed (s := s.withInputs rest) hc ha hw).imp_right .inl
  | resume c _ hc hh hw =>
    obtain ⟨-, ha, -⟩ := hinv.held_admitted c hh
    exact (attempt_sameHeader_or_parsed (s := s.setHeld none) hc ha hw).imp_right .inl

end Sys2Proof.Machine
end

section
/-! Proofs about how CURSOR moves over the byte stream (20_memory.md R49, R57): how far a byte read, each command, and then
each step advances it. -/
namespace Sys2Proof.Machine

/-- The bytes that are there to be read begin with the byte at CURSOR (R14). -/
theorem State.head?_available (s : State) : s.available.head? = s.source[s.cursor]? := List.head?_drop

/-- A byte that `InByte()` returns is the one at CURSOR, and CURSOR moves past it (R14, R49). -/
theorem inByte_got {s t : State} {v : Byte} (h : inByte s = .got v t) :
    s.source[s.cursor]? = some v ∧ t = s.consume 1 := by
  rcases inByte_cases s with ⟨w, tail, ha, hb⟩ | ⟨-, -, hb⟩ | ⟨-, -, hb⟩ <;> rw [hb] at h <;> cases h
  exact ⟨by rw [← s.head?_available, ha, List.head?_cons], rfl⟩

/-- How far PARSE_HEADER moves CURSOR: 14 bytes, unless it raises, and then not backwards (R57, R91). -/
theorem parseHeader_cursor {s t : State} (h : parseHeader s = .done (.next t)) :
    (t.phase = .error ∧ s.cursor ≤ t.cursor) ∨ t.cursor = s.cursor + 14 := by
  rcases parseHeader_end s with ⟨-, -, hp⟩ | ⟨_, _, _, k, -, -, -, hp⟩ | ⟨_, _, _, _, -, -, -, hp⟩ <;>
    rw [hp] at h <;> cases h
  · exact .inl ⟨rfl, Nat.le_add_right s.cursor k⟩
  · exact .inr rfl

/-- How far NEXT moves CURSOR: not at all in a run continuation, else past the opcode it decodes, unless it raises, and then
not backwards (R57, R106). -/
theorem nextPixel_cursor {s t : State} (h : nextPixel s = .done (.next t)) :
    (t.phase = .error ∧ s.cursor ≤ t.cursor) ∨ (s.runcnt ≠ 0 ∧ t.cursor = s.cursor) ∨
    (s.runcnt = 0 ∧ ∃ i rest, decode s.available = .ok (i, rest) ∧ t.cursor = s.cursor + instrLength i) := by
  rcases nextPixel_cases s with
    ⟨hr, hn⟩ | ⟨hr, i, rest, hd, hn⟩ | ⟨-, -, -, hn⟩ | ⟨-, -, _, _, -, -, hn⟩ | ⟨-, -, -, hn⟩ <;> rw [hn] at h
  · rw [continueRun_eq] at h
    cases h
    exact .inr (.inl ⟨hr, rfl⟩)
  · rw [exec_eq] at h
    cases h
    exact .inr (.inr ⟨hr, i, rest, hd, rfl⟩)
  · cases h
    exact .inl ⟨rfl, le_refl s.cursor⟩
  · cases h
    exact .inl ⟨rfl, Nat.le_add_right s.cursor _⟩
  · cases h

/-- No command but RESET moves CURSOR back, however it ends. -/
theorem cursor_le_of_attempt {c : Command} {s t : State} (hc : c ≠ .reset) (h : attempt c s = .done (.next t)) :
    s.cursor ≤ t.cursor := by
  cases c with
  | reset => exact absurd rfl hc
  | parseHeader =>
    rcases parseHeader_cursor h with ⟨-, le⟩ | eq
    · exact le
    · omega
  | next =>
    rcases nextPixel_cursor h with ⟨-, le⟩ | ⟨-, eq⟩ | ⟨-, _, _, -, eq⟩
    · exact le
    · omega
    · omega

/-- Settles O10: a read is at CURSOR, and by cases on what a step has done only the host's RESET moves CURSOR back. -/
theorem streamIsReadInOrder : Obligations.StreamIsReadInOrder := by
  refine ⟨fun _ _ _ => inByte_got, fun s t hstep hheld => ?_⟩
  cases step_move hstep with
  | stay | byte | eos | read | refuse | hold => exact .inl (le_refl s.cursor)
  | reset rest hi => exact .inr ⟨rest, hi⟩
  | heldReset hh => exact absurd hh hheld
  | work c rest _ hc _ _ _ _ hw => exact .inl (cursor_le_of_attempt (s := s.withInputs rest) hc hw)
  | resume c _ hc _ hw => exact .inl (cursor_le_of_attempt (s := s.setHeld none) hc hw)

/-- Settles O11: a command that has not raised has moved CURSOR by the 14 bytes of the header, by nothing, or by the length
of the opcode. -/
theorem bytesReadPerCommand : Obligations.BytesReadPerCommand := by
  refine fun s t => ⟨fun _ h hphase => ?_, fun _ h hphase => ?_⟩
  · exact (parseHeader_cursor h).resolve_left fun ⟨herror, _⟩ => hphase herror
  · rcases nextPixel_cursor h with ⟨herror, -⟩ | continued | ⟨hr, i, rest, hd, hcursor⟩
    · exact absurd herror hphase
    · exact .inl continued
    · refine .inr ⟨hr, i, rest, hd, ?_⟩
      cases i <;> exact hcursor

end Sys2Proof.Machine
end

section
/-! Proofs about the encoding of opcodes (30_encoding.md R79-R82): the kind an op byte selects, the kind of the instruction
that is decoded, and which lists of bytes decode. -/
namespace Sys2Proof
open Machine

/-- The kind of an instruction: its row of R72. -/
def Instr.kind : Instr → Kind
  | .index _ => .index
  | .diff _ _ _ => .diff
  | .luma _ _ _ => .luma
  | .run _ => .run
  | .rgb _ _ _ => .rgb
  | .rgba _ _ _ _ => .rgba

/-- An instruction has the length of its kind (R72). -/
theorem kindLength_kind (i : Instr) : kindLength i.kind = instrLength i := by
  cases i <;> rfl

theorem kindLength_pos (k : Kind) : 0 < kindLength k := by
  cases k <;> decide

/-- RUN is what is left of `11xxxxxx` once 0xFE and 0xFF are tested (R79, R80). -/
theorem opByte_of_kindOf_run {op : Byte} (h : kindOf op = .run) :
    op ≠ 0xFE ∧ op ≠ 0xFF ∧ op.extractLsb' 6 2 = 0b11 := by
  have last : ∀ tag : BitVec 2, tag ≠ 0b00 → tag ≠ 0b01 → tag ≠ 0b10 → tag = 0b11 := by decide
  unfold kindOf at h
  split_ifs at h with rgb rgba index diff luma
  exact ⟨rgb, rgba, last _ index diff luma⟩

/-- The run field of a RUN's op byte is at most 61: 62 and 63 would make it 0xFE and 0xFF (R79). -/
theorem runField_le_of_kindOf_run {op : Byte} (h : kindOf op = .run) : (op.extractLsb' 0 6).toNat ≤ 61 := by
  obtain ⟨not_rgb, not_rgba, tag⟩ := opByte_of_kindOf_run h
  have not_rgb : op.toNat ≠ 254 := BitVec.toNat_ne.mp not_rgb
  have not_rgba : op.toNat ≠ 255 := BitVec.toNat_ne.mp not_rgba
  have tag : op.toNat >>> 6 % 4 = 3 := congrArg BitVec.toNat tag
  rw [BitVec.extractLsb'_toNat]
  omega

/-- What is decoded as a kind is of that kind. -/
theorem kind_of_decodeAs {k : Kind} {op : Byte} {rest tail : List Byte} {i : Instr}
    (h : decodeAs k op rest = .ok (i, tail)) : i.kind = k := by
  cases k with
  | index | diff | run => cases h; rfl
  | luma | rgb | rgba =>
    simp only [decodeAs] at h
    split at h <;> cases h
    rfl

/-- What is decoded is of the kind that the op byte selects (R80). -/
theorem kind_of_decode {op : Byte} {rest tail : List Byte} {i : Instr} (h : decode (op :: rest) = .ok (i, tail)) :
    i.kind = kindOf op := kind_of_decodeAs h

/-- What is decoded has an encoding: RUN's field is the only one that could lack it (R79, R82). -/
theorem wellFormed_of_decode {op : Byte} {rest tail : List Byte} {i : Instr} (h : decode (op :: rest) = .ok (i, tail)) :
    i.wellFormed = true := by
  cases i with
  | run n =>
    have hrun : kindOf op = .run := (kind_of_decode h).symm
    rw [decode, hrun] at h
    cases h
    exact decide_eq_true (runField_le_of_kindOf_run hrun)
  | index | diff | luma | rgb | rgba => rfl

/-- Decoding takes the bytes of the kind the op byte selects and leaves those after them (R72). -/
theorem split_of_decode {op : Byte} {data tail : List Byte} {i : Instr} (h : decode (op :: data) = .ok (i, tail)) :
    kindLength (kindOf op) ≤ data.length + 1 ∧ tail = data.drop (kindLength (kindOf op) - 1) := by
  obtain ⟨front, hsplit, hlen, -⟩ := decode_ok h
  rw [← kindLength_kind, kind_of_decode h] at hlen
  rw [← hlen]
  cases front with
  | nil => exact absurd hlen (kindLength_pos _).ne
  | cons _ _ =>
    cases hsplit
    simp

/-- Settles O4: what decodes is well formed and takes the bytes of its kind, and what does not decode is too short. -/
theorem onlyMissingBytesFailToDecode : Obligations.OnlyMissingBytesFailToDecode := by
  refine ⟨rfl, fun op data => ?_⟩
  cases hd : decode (op :: data) with
  | ok decoded =>
    obtain ⟨i, tail⟩ := decoded
    obtain ⟨enough, rfl⟩ := split_of_decode hd
    exact ⟨fun _ => ⟨i, wellFormed_of_decode hd, rfl⟩, fun short => absurd enough (Nat.not_le.mpr short)⟩
  | error e =>
    rcases decode_error hd with ⟨hnil, -⟩ | ⟨_, _, hcons, rfl, short⟩
    · cases hnil
    · cases hcons
      exact ⟨fun enough => absurd enough (Nat.not_le.mpr short), fun _ => rfl⟩

/-- Settles O3: the tests of `kindOf` in their order, and the kind of what is decoded. -/
theorem opByteSelectsItsKind : Obligations.OpByteSelectsItsKind := by
  refine fun op => ⟨fun rgb => if_pos rgb, fun rgba => by rw [rgba]; rfl, fun not_rgb not_rgba => ?_, ?_⟩
  · rw [kindOf, if_neg not_rgb, if_neg not_rgba]
    refine ⟨?_, ?_, ?_, ?_⟩ <;> (intro tag; rw [tag]; rfl)
  · intro rest tail i hd
    rw [← kind_of_decode hd]
    cases i <;> rfl

end Sys2Proof
end

section
/-! Proofs about what PARSE_HEADER stores (40_header.md R93, R94): the header whose 14 bytes are there, and the number that
four big-endian bytes are. -/
namespace Sys2Proof.Machine

/-- Four bytes as a big-endian field, without overflow (R11, R68, R69). -/
theorem bigEndian32_toNat (b0 b1 b2 b3 : Byte) :
    (bigEndian32 [b0, b1, b2, b3]).toNat = b0.toNat * 2 ^ 24 + b1.toNat * 2 ^ 16 + b2.toNat * 2 ^ 8 + b3.toNat := by
  simp only [bigEndian32, bigEndian, List.foldl_cons, List.foldl_nil, BitVec.toNat_ofNat]
  omega

/-- With a good magic and all 14 bytes there, PARSE_HEADER reads each field at its place and checks it (R91). -/
theorem parseHeader_of_available {s : State} {w h rest : List Byte} {c cs : Byte} (hw : w.length = 4)
    (hh : h.length = 4) (ha : s.available = magic ++ (w ++ (h ++ c :: cs :: rest))) :
    parseHeader s = checkHeader w h c cs (s.consume 14) := by
  have at4 : (s.consume 4).available = w ++ (h ++ c :: cs :: rest) := by simp [ha, magic]
  have at8 : (s.consume 8).available = h ++ c :: cs :: rest := by
    rw [← State.consume_consume 4 4, State.available_consume, at4, ← hw, List.drop_left]
  have at12 : (s.consume 12).available = c :: cs :: rest := by
    rw [← State.consume_consume 8 4, State.available_consume, at8, ← hh, List.drop_left]
  have at13 : (s.consume 13).available = cs :: rest := by
    rw [← State.consume_consume 12 1, State.available_consume, at12, List.drop_one, List.tail_cons]
  simp [parseHeader, Fetch.resolve, inBytes_append (n := 4) ha rfl, inBytes_append at4 hw, inBytes_append at8 hh,
    inByte_cons at12, inByte_cons at13]

/-- Legal enum fields pass, and the Header is stored (R96-R98). -/
theorem checkHeader_legal {w h : List Byte} {c cs : Byte} {s : State} (hc : c = 3 ∨ c = 4) (hcs : cs = 0 ∨ cs = 1) :
    checkHeader w h c cs s = .done (.next (s.storeHeader (bigEndian32 w) (bigEndian32 h) c cs)) := by
  obtain rfl | rfl := hc <;> obtain rfl | rfl := hcs <;> rfl

/-- Settles O13: the Header that a legal PARSE_HEADER stores holds its two big-endian fields. -/
theorem headerStoresWidthAndHeight : Obligations.HeaderStoresWidthAndHeight := by
  intro s w0 w1 w2 w3 h0 h1 h2 h3 c cs rest ha hc hcs
  have stores := (parseHeader_of_available (w := [w0, w1, w2, w3]) (h := [h0, h1, h2, h3]) rfl rfl ha).trans
    (checkHeader_legal hc hcs)
  exact ⟨_, _, _, stores, rfl, rfl, bigEndian32_toNat w0 w1 w2 w3, bigEndian32_toNat h0 h1 h2 h3⟩

end Sys2Proof.Machine
end

section
/-! Proofs about NEXT (41_pixel_step.md R106 to R113, R123, R153): how it ends, with a pixel or with a raise, and that the
decoder with exec is the rule's own pseudocode. -/
namespace Sys2Proof.Machine

/-! How a NEXT ends. -/

/-- An opcode's bytes are not all there: no op byte, or fewer data bytes than its kind takes (R82). -/
def BytesMissing (bs : List Byte) : Prop :=
  bs = [] ∨ ∃ op data, bs = op :: data ∧ data.length + 1 < kindLength (kindOf op)

/-- While a run is owed NEXT is the run continuation (R107). -/
theorem nextPixel_of_run_owed {s : State} (hr : s.runcnt ≠ 0) : nextPixel s = .done (continueRun s) := if_neg hr

/-- Raising after `n` more bytes is the failed state the obligations name. -/
theorem State.raise_consume (n : Nat) (code : ErrCode) (stage : Stage) (value : Byte) (s : State) :
    (s.consume n).raise code stage value = failedAt s n code stage value := rfl

/-- A NEXT that emits, whatever it wrote to RUNCNT, does not lead to phase ERROR (R114). -/
theorem State.produce_phase_ne_error {s : State} (hpixels : s.phase = .pixels) (v : U32) (n : Nat) (p : Pixel) :
    ((s.setRuncnt v).produce n p).phase ≠ .error := by
  rcases (s.setRuncnt v).produce_phase_cases n p with ⟨-, hp⟩ | ⟨-, hp⟩ <;> rw [hp]
  · decide
  · simp [hpixels]

/-- A NEXT that ends has emitted a pixel by the common end, or has raised TruncatedStreamError for missing bytes of an
exhausted source (R106, R123). -/
theorem nextPixel_done {s : State} {a : Answer} (h : nextPixel s = .done a) :
    (∃ v n p, a = .next ((s.setRuncnt v).produce n p)) ∨
    (s.runcnt = 0 ∧ s.exhausted = true ∧ BytesMissing s.available ∧
      ∃ n stage value, a = .next (failedAt s n .truncated stage value)) := by
  rcases nextPixel_cases s with
    ⟨-, hn⟩ | ⟨-, i, _, -, hn⟩ | ⟨hr, ha, he, hn⟩ | ⟨hr, he, op, data, ha, short, hn⟩ | ⟨-, -, -, hn⟩ <;>
    rw [hn] at h <;> cases h
  · exact .inl ⟨_, _, _, continueRun_eq s⟩
  · exact .inl ⟨_, _, _, exec_eq i s⟩
  · exact .inr ⟨hr, he, .inl ha, 0, _, _, rfl⟩
  · rw [ha, List.length_cons] at short
    exact .inr ⟨hr, he, .inr ⟨op, data, ha, short⟩, _, _, _, rfl⟩

/-- Settles O31: the common end writes the one entry at the new PREV's hash, and a raise writes none. -/
theorem everyPixelUpdatesTheCache : Obligations.EveryPixelUpdatesTheCache := by
  intro s t hpixels h
  rcases nextPixel_done h with ⟨v, n, p, ht⟩ | ⟨-, -, -, n, stage, value, ht⟩ <;> cases ht
  · exact ⟨fun _ j => State.cacheGet_produce n p j _,
      fun herror => absurd herror (State.produce_phase_ne_error hpixels v n p)⟩
  · exact ⟨fun hphase => absurd rfl hphase, fun _ => rfl⟩

/-- Settles O34: a NEXT that has not raised ends by the common end, whose response and cache entry are the new PREV. -/
theorem nextEmitsPrevious : Obligations.NextEmitsPrevious := by
  intro s t _ h hphase
  rcases nextPixel_done h with ⟨v, n, p, ht⟩ | ⟨-, -, -, n, stage, value, ht⟩ <;> cases ht
  · exact ⟨rfl, (State.cacheGet_produce n p _ _).trans (if_pos rfl), rfl⟩
  · exact absurd rfl hphase

/-- Settles O39: of the two ways a NEXT ends, only the raise leads to phase ERROR. -/
theorem nextFailsOnlyByTruncation : Obligations.NextFailsOnlyByTruncation := by
  intro s a hpixels h
  rcases nextPixel_done h with ⟨v, n, p, rfl⟩ | ⟨hr, he, missing, n, stage, value, rfl⟩
  · exact ⟨_, rfl, fun herror => absurd herror (State.produce_phase_ne_error hpixels v n p)⟩
  · exact ⟨_, rfl, fun _ => ⟨hr, he, rfl, missing⟩⟩

/-- With no op byte on an exhausted source NEXT raises where CURSOR stands (R108). -/
theorem nextPixel_of_op_missing {s : State} (hr : s.runcnt = 0) (he : s.exhausted = true) (ha : s.available = []) :
    nextPixel s = .done (.next (failedAt s 0 .truncated .opcode 0)) := by
  simp [nextPixel, nextOpcode, decode, raised, ← State.raise_consume, hr, he, ha]

/-- Settles O36: CURSOR at the end of the source leaves no byte to read, and a run continuation keeps the status. -/
theorem missingOpByteIsTruncated : Obligations.MissingOpByteIsTruncated := by
  refine ⟨fun s hr he hcursor => ⟨nextPixel_of_op_missing hr he ?_, hcursor⟩, fun s t hr h => ?_⟩
  · exact List.drop_eq_nil_of_le hcursor.ge
  · rw [nextPixel_of_run_owed hr, continueRun_eq] at h
    cases h
    exact ⟨rfl, rfl, rfl⟩

/-! The pseudocode of R106. -/

/-- A command that needs a byte where none is there raises on an exhausted source, else holds (R50). -/
theorem resolve_inByte_missing {s : State} (h : s.available = []) (onEos : State → Attempt)
    (onGot : Byte → State → Attempt) :
    (inByte s).resolve onEos onGot = if s.exhausted then onEos s else .hold := by
  cases he : s.exhausted <;> simp [inByte, Fetch.resolve, h, he]

/-- The same of `n` bytes: those that are there are consumed before the raise (R14, R50). -/
theorem resolve_inBytes_missing {n : Nat} {s : State} (h : s.available.length < n) (onEos : State → Attempt)
    (onGot : List Byte → State → Attempt) :
    (inBytes n s).resolve onEos onGot = if s.exhausted then onEos (s.consume s.available.length) else .hold := by
  cases he : s.exhausted
  · rw [inBytes_hold h he]; rfl
  · rw [inBytes_short h he]; rfl

/-- Where a data byte is missing the handler consumes what is there and raises, or holds (R106, R110). -/
theorem ruleHandler_of_operand_missing {s : State} {op : Byte} {data : List Byte} (ha : s.available = op :: data)
    (short : s.available.length < kindLength (kindOf op)) :
    ruleHandler op (s.consume 1) =
      if s.exhausted then raised .truncated .operand op (s.consume s.available.length) else .hold := by
  have after : (s.consume 1).available = data := by simp [ha]
  have all : (s.consume 1).consume data.length = s.consume s.available.length := by simp [ha, Nat.add_comm]
  rw [ha, List.length_cons] at short
  unfold ruleHandler
  cases hk : kindOf op <;> rw [hk, kindLength] at short
  case index | diff | run => omega
  case luma =>
    obtain rfl : data = [] := List.length_eq_zero_iff.mp (by omega)
    rw [← all]
    exact resolve_inByte_missing after _ _
  case rgb | rgba =>
    rw [← all, ← after]
    exact resolve_inBytes_missing (by rw [after]; omega) _ _

/-- Where the whole opcode is there the handler is exec of what is decoded: it reads the data bytes that the decoder takes,
and its pixel ends as exec's does (R106, R109). -/
theorem ruleHandler_of_decode {s : State} {op : Byte} {data tail : List Byte} {i : Instr} (ha : s.available = op :: data)
    (hd : decode (op :: data) = .ok (i, tail)) : ruleHandler op (s.consume 1) = .done (exec i s) := by
  have after : (s.consume 1).available = data := by simp [ha]
  unfold ruleHandler
  rw [decode] at hd
  cases hk : kindOf op <;> rw [hk] at hd
  case index | diff | run =>
    cases hd
    rfl
  case luma =>
    match data, hd with
    | b2 :: _, hd =>
      cases hd
      dsimp only
      rw [inByte_cons after]
      rfl
  case rgb =>
    match data, hd with
    | r :: g :: b :: _, hd =>
      cases hd
      dsimp only
      rw [inBytes_append (n := 3) (xs := [r, g, b]) after rfl]
      rfl
  case rgba =>
    match data, hd with
    | r :: g :: b :: a :: _, hd =>
      cases hd
      dsimp only
      rw [inBytes_append (n := 4) (xs := [r, g, b, a]) after rfl]
      rfl

/-- While a run is owed the pseudocode is the run continuation (R107). -/
theorem ruleNext_of_run_owed {s : State} (hr : s.runcnt ≠ 0) : ruleNext s = .done (continueRun s) :=
  if_pos (Nat.pos_of_ne_zero fun hzero => hr (BitVec.eq_of_toNat_eq hzero))

/-- With no run owed the pseudocode reads the op byte. -/
theorem ruleNext_of_no_run {s : State} (hr : s.runcnt = 0) :
    ruleNext s = (inByte s).resolve (raised .truncated .opcode 0) ruleHandler :=
  if_neg (by simp [hr])

/-- The op byte read, the pseudocode goes on with its handler. -/
theorem ruleNext_of_op {s : State} {op : Byte} {data : List Byte} (hr : s.runcnt = 0) (ha : s.available = op :: data) :
    ruleNext s = ruleHandler op (s.consume 1) := by
  rw [ruleNext_of_no_run hr, inByte_cons ha]
  rfl

/-- Settles O30, by cases on what NEXT does: in each the pseudocode, byte after byte, comes to the same end. -/
theorem nextFollowsThePseudocode : Obligations.NextFollowsThePseudocode := by
  intro s
  rcases nextPixel_cases s with
    ⟨hr, hn⟩ | ⟨hr, i, tail, hd, hn⟩ | ⟨hr, ha, he, hn⟩ | ⟨hr, he, op, data, ha, short, hn⟩ | ⟨hr, he, ⟨e, hd⟩, hn⟩ <;>
    rw [hn]
  · exact (ruleNext_of_run_owed hr).symm
  · cases ha : s.available with
    | nil => rw [ha] at hd; cases hd
    | cons op data =>
      rw [ha] at hd
      rw [ruleNext_of_op hr ha, ruleHandler_of_decode ha hd]
  · rw [ruleNext_of_no_run hr, resolve_inByte_missing ha, if_pos he, raised]
  · rw [ruleNext_of_op hr ha, ruleHandler_of_operand_missing ha short, if_pos he, raised]
  · have holds : ¬s.exhausted = true := by simp [he]
    rcases decode_error hd with ⟨ha, -⟩ | ⟨op, data, ha, -, short⟩
    · rw [ruleNext_of_no_run hr, resolve_inByte_missing ha, if_neg holds]
    · rw [ruleNext_of_op hr ha, ruleHandler_of_operand_missing ha short, if_neg holds]

end Sys2Proof.Machine
end

section
/-! Proofs about decoding what the encoder writes (30_encoding.md R73-R79): the kind of each op byte with its fields in
place, and the fields read back. -/
namespace Sys2Proof

theorem kindOf_index (i : BitVec 6) : kindOf (0b00#2 ++ i) = .index := by
  revert i; decide

theorem kindOf_diff (ur ug ub : BitVec 2) : kindOf (0b01#2 ++ ur ++ ug ++ ub) = .diff := by
  revert ur ug ub; decide

theorem kindOf_luma (ugreen : BitVec 6) : kindOf (0b10#2 ++ ugreen) = .luma := by
  revert ugreen; decide

/-- With a run field up to 61 the op byte is neither 0xFE nor 0xFF (R79). -/
theorem kindOf_run {n : BitVec 6} (hn : n.toNat ≤ 61) : kindOf (0b11#2 ++ n) = .run := by
  revert n; decide

/-- DIFF's red field lies above its two others (R74). -/
theorem diffRed_field (ur ug ub : BitVec 2) : (0b01#2 ++ ur ++ ug ++ ub).extractLsb' 4 2 = ur := by
  rw [BitVec.extractLsb'_append_eq_of_le (by decide), BitVec.extractLsb'_append_eq_of_le (by decide)]
  exact BitVec.extractLsb'_append_eq_right

/-- DIFF's green field lies above its blue one (R74). -/
theorem diffGreen_field (ur ug ub : BitVec 2) : (0b01#2 ++ ur ++ ug ++ ub).extractLsb' 2 2 = ug := by
  rw [BitVec.extractLsb'_append_eq_of_le (by decide)]
  exact BitVec.extractLsb'_append_eq_right

/-- An instruction that has an encoding is read back from its bytes, whatever follows them (R73-R79). -/
theorem decode_encode {i : Instr} (h : i.wellFormed = true) (rest : List Byte) :
    decode (encode i ++ rest) = .ok (i, rest) := by
  cases i with
  | index i =>
    change decodeAs (kindOf (0b00#2 ++ i)) (0b00#2 ++ i) rest = _
    rw [kindOf_index, decodeAs, BitVec.extractLsb'_append_eq_right]
  | diff ur ug ub =>
    change decodeAs (kindOf (0b01#2 ++ ur ++ ug ++ ub)) (0b01#2 ++ ur ++ ug ++ ub) rest = _
    rw [kindOf_diff, decodeAs, diffRed_field, diffGreen_field, BitVec.extractLsb'_append_eq_right]
  | luma ugreen urg ubg =>
    change decodeAs (kindOf (0b10#2 ++ ugreen)) (0b10#2 ++ ugreen) ((urg ++ ubg) :: rest) = _
    rw [kindOf_luma, decodeAs, BitVec.extractLsb'_append_eq_right, BitVec.extractLsb'_append_eq_left,
      BitVec.extractLsb'_append_eq_right]
  | run n =>
    change decodeAs (kindOf (0b11#2 ++ n)) (0b11#2 ++ n) rest = _
    rw [kindOf_run (of_decide_eq_true h), decodeAs, BitVec.extractLsb'_append_eq_right]
  | rgb | rgba => rfl

end Sys2Proof
end

section
/-! Proofs about the pixel opcodes (42_pixel_opcodes.md R125 to R139): the state each completes in, and the raise where its
data bytes are cut off. -/
namespace Sys2Proof.Machine

/-- An opcode completes with the pixel and the RUNCNT of its instruction, and writes no status (R144, R145). -/
theorem exec_completes (i : Instr) (s : State) :
    ∃ t, exec i s = .next t ∧ t.prev = pixelOf i s ∧ t.runcnt = runcntOf i s ∧ sameStatus s t :=
  ⟨_, exec_eq i s, rfl, rfl, rfl, rfl, rfl⟩

/-- A delta is added on mathematical integers and reduced modulo 256, also where the sum is negative (R125). -/
theorem addDelta_toNat (old : Byte) (d : Int) : ((addDelta old d).toNat : Int) = ((old.toNat : Int) + d) % 256 := by
  rw [addDelta, BitVec.toNat_ofInt]
  exact Int.toNat_of_nonneg (Int.emod_nonneg _ (by decide))

/-- With no run owed, NEXT is the opcode that the bytes at CURSOR decode to (R106, R109). -/
theorem nextPixel_of_decode {s : State} {i : Instr} {tail : List Byte} (hr : s.runcnt = 0)
    (hd : decode s.available = .ok (i, tail)) : nextPixel s = .done (exec i s) := by
  rw [nextPixel, if_pos hr, nextOpcode, hd]

/-- Where an opcode's data bytes are cut off by the end of the source, NEXT consumes those that are there and raises
(R106, R110). -/
theorem nextPixel_of_operand_missing {s : State} {op : Byte} {data : List Byte} (hr : s.runcnt = 0)
    (he : s.exhausted = true) (ha : s.available = op :: data) (short : data.length + 1 < kindLength (kindOf op)) :
    nextPixel s = .done (.next (failedAt s (1 + data.length) .truncated .operand op)) := by
  obtain ⟨-, decodes⟩ := onlyMissingBytesFailToDecode
  have missing : decode s.available = .error (.operandMissing op) := by rw [ha]; exact (decodes op data).2 short
  rw [nextPixel, if_pos hr, nextOpcode, missing]
  simp [raised, State.raise_consume, he, ha, Nat.add_comm]

/-- Settles O20: the op byte decodes to INDEX, whose pixel is the entry. -/
theorem indexLoadsTheCacheEntry : Obligations.IndexLoadsTheCacheEntry := fun i s rest =>
  ⟨decode_encode (i := .index i) rfl rest, exec_completes (.index i) s⟩

/-- Settles O21: the op byte decodes to DIFF, whose pixel is PREV with a delta added to each colour channel. -/
theorem diffAddsSmallDeltas : Obligations.DiffAddsSmallDeltas := fun ur ug ub s rest =>
  ⟨decode_encode (i := .diff ur ug ub) rfl rest, _, exec_eq _ s, addDelta_toNat _ _, addDelta_toNat _ _,
    addDelta_toNat _ _, rfl, rfl, rfl, rfl, rfl⟩

/-- Settles O22: the two bytes decode to LUMA, whose pixel is PREV with a delta added to each colour channel; the op byte
alone is cut off. -/
theorem lumaAddsGreenRelativeDeltas : Obligations.LumaAddsGreenRelativeDeltas := by
  refine ⟨fun ugreen urg ubg s rest => ?_, fun ugreen s hr he ha => ?_⟩
  · exact ⟨decode_encode (i := .luma ugreen urg ubg) rfl rest, _, exec_eq _ s, addDelta_toNat _ _, addDelta_toNat _ _,
      addDelta_toNat _ _, rfl, rfl, rfl, rfl, rfl⟩
  · exact nextPixel_of_operand_missing hr he ha (by rw [kindOf_luma]; decide)

/-- Settles O23: the four bytes decode to RGB, whose pixel keeps PREV's alpha; fewer are cut off. -/
theorem rgbReplacesColours : Obligations.RgbReplacesColours := by
  refine ⟨fun r g b s rest => ?_, fun data s hr he ha short => ?_⟩
  · exact ⟨decode_encode (i := .rgb r g b) rfl rest, exec_completes (.rgb r g b) s⟩
  · exact nextPixel_of_operand_missing hr he ha (Nat.succ_lt_succ short)

/-- Settles O24: the five bytes decode to RGBA, whose pixel is its four data bytes; fewer are cut off. -/
theorem rgbaReplacesAllChannels : Obligations.RgbaReplacesAllChannels := by
  refine ⟨fun r g b a s rest => ?_, fun data s hr he ha short => ?_⟩
  · exact ⟨decode_encode (i := .rgba r g b a) rfl rest, exec_completes (.rgba r g b a) s⟩
  · exact nextPixel_of_operand_missing hr he ha (Nat.succ_lt_succ short)

end Sys2Proof.Machine
end

section
/-! Proofs about a whole run (42_pixel_opcodes.md R141): the opcode's own pixel and the run continuations after it, step by
step over the NEXTs that the host issues. -/
namespace Sys2Proof.Machine

/-- The host's next `k` inputs are NEXTs, none of which is refused or ends the image before the last; `rest` comes after
them. -/
structure NextsPending (k : Nat) (rest : List Input) (s : State) : Prop where
  inputs_eq : s.inputs = List.replicate k (.command .next) ++ rest
  idle : s.held = none
  not_refused : s.refused = false
  in_pixels : 0 < k → s.phase = .pixels
  pixels_left : ∀ total, s.total = some total → s.emitted.toNat + k ≤ total.toNat

/-- From `s` to `t` the block has emitted `k` pixels that are all the PREV of `s`, which stays, and has read `n` bytes. -/
def Repeats (k n : Nat) (s t : State) : Prop :=
  t.prev = s.prev ∧ t.cursor = s.cursor + n ∧ t.responses = s.responses ++ List.replicate k (.pixel s.prev) ∧
  sameStatus s t

theorem Repeats.refl (s : State) : Repeats 0 0 s s := ⟨rfl, rfl, (List.append_nil _).symm, rfl, rfl, rfl⟩

/-- The pixels and the bytes of two stretches add up. -/
theorem Repeats.trans {j k m n : Nat} {s t u : State} (hst : Repeats j m s t) (htu : Repeats k n t u) :
    Repeats (j + k) (m + n) s u := by
  obtain ⟨prev₁, cursor₁, responses₁, errcode₁, errinfo₁, refused₁⟩ := hst
  obtain ⟨prev₂, cursor₂, responses₂, errcode₂, errinfo₂, refused₂⟩ := htu
  refine ⟨prev₂.trans prev₁, ?_, ?_, errcode₂.trans errcode₁, errinfo₂.trans errinfo₁, refused₂.trans refused₁⟩
  · rw [cursor₂, cursor₁, Nat.add_assoc]
  · rw [responses₂, responses₁, prev₁, List.append_assoc, List.replicate_append_replicate]

/-- The state after a NEXT that made PREV again: RUNCNT is `v`, and `n` bytes were read. -/
def State.repeated (v : U32) (n : Nat) (rest : List Input) (s : State) : State :=
  ((s.withInputs rest).setRuncnt v).produce n s.prev

theorem State.repeats_repeated (v : U32) (n : Nat) (rest : List Input) (s : State) :
    Repeats 1 n s (s.repeated v n rest) := ⟨rfl, rfl, rfl, rfl, rfl, rfl⟩

/-- A NEXT that emits takes one of the pending NEXTs. It is not the last of the image while others are pending, so PHASE stays
PIXELS (R114). -/
theorem NextsPending.repeated {k : Nat} {rest : List Input} {s : State} (h : NextsPending (k + 1) rest s) (v : U32)
    (n : Nat) : NextsPending k rest (s.repeated v n (List.replicate k (.command .next) ++ rest)) := by
  have room : ∀ total, s.total = some total → (s.emitted + 1).toNat + k ≤ total.toNat := by
    intro total ht
    have left := h.pixels_left total ht
    bv_omega
  refine ⟨rfl, h.idle, h.not_refused, fun hk => ?_, room⟩
  rcases ((s.withInputs _).setRuncnt v).produce_phase_cases n s.prev with ⟨last, -⟩ | ⟨-, same⟩
  · have full : (s.emitted + 1).toNat + k ≤ (s.emitted + 1).toNat := room _ last
    omega
  · exact same.trans (h.in_pixels (Nat.succ_pos k))

/-- A step that takes an admitted NEXT which ends answers what NEXT ends with (R105, R106). -/
theorem step_of_next {s : State} {rest : List Input} {a : Answer} (hphase : s.phase = .pixels)
    (hrefused : s.refused = false) (hheld : s.held = none) (hi : s.inputs = .command .next :: rest)
    (hn : nextPixel (s.withInputs rest) = .done a) : step s = a := by
  simp [step, advance, takeInput, receive, issue, issueWork, perform, attempt, admits, hphase, hrefused, hheld, hi, hn]

/-- The step that takes the first of the pending NEXTs. -/
theorem NextsPending.step_eq {k : Nat} {rest : List Input} {s : State} {a : Answer} (h : NextsPending (k + 1) rest s)
    (hn : nextPixel (s.withInputs (List.replicate k (.command .next) ++ rest)) = .done a) : step s = a :=
  step_of_next (h.in_pixels (Nat.succ_pos k)) h.not_refused h.idle h.inputs_eq hn

/-- A step and the steps after it make one run. -/
theorem runsTo_succ {k : Nat} {s t u : State} (hs : step s = .next t) (hr : runsTo k t u) : runsTo (k + 1) s u := by
  have hs : Sys2Proof.core.step s = .next t := hs
  simp only [runsTo, Host.Core.run, hs]
  exact hr

/-- While `k` pixels of a run are owed, the next `k` NEXTs emit PREV each and read no byte (R107). -/
theorem runsTo_of_run_owed {k : Nat} {rest : List Input} {s : State} (h : NextsPending k rest s)
    (owed : s.runcnt.toNat = k) : ∃ t, runsTo k s t ∧ t.runcnt = 0 ∧ t.inputs = rest ∧ Repeats k 0 s t := by
  induction k generalizing s with
  | zero => exact ⟨s, rfl, BitVec.eq_of_toNat_eq owed, h.inputs_eq, .refl s⟩
  | succ k ih =>
    have hr : s.runcnt ≠ 0 := fun hzero => by simp [hzero] at owed
    have owed' : (s.runcnt - 1).toNat = k := by bv_omega
    have first := h.step_eq (nextPixel_of_run_owed hr)
    obtain ⟨t, hrun, hzero, hinputs, hrepeats⟩ := ih (h.repeated (s.runcnt - 1) 0) owed'
    exact ⟨t, runsTo_succ first hrun, hzero, hinputs,
      Nat.add_comm 1 k ▸ (s.repeats_repeated _ 0 _).trans hrepeats⟩

/-- Settles O26: the opcode's step leaves RUNCNT at `n` with `n` NEXTs pending, which the run continuations take. -/
theorem runEmitsItsWholeLength : Obligations.RunEmitsItsWholeLength := by
  intro n s total tail rest hn hphase hrefused hheld hr htotal hleft ha hi
  have pending : NextsPending (n.toNat + 1) rest s :=
    { inputs_eq := hi
      idle := hheld
      not_refused := hrefused
      in_pixels := fun _ => hphase
      pixels_left := fun _ ht => by cases htotal.symm.trans ht; exact hleft }
  have owed : (n.setWidth 32).toNat = n.toNat := BitVec.toNat_setWidth_of_le (by decide)
  have decoded : decode s.available = .ok (.run n, tail) := by
    rw [ha]
    exact decode_encode (i := .run n) (decide_eq_true hn) tail
  have first := pending.step_eq (nextPixel_of_decode (s := s.withInputs _) hr decoded)
  have once := s.repeats_repeated (n.setWidth 32) 1 (List.replicate n.toNat (.command .next) ++ rest)
  obtain ⟨t, hrun, hzero, hinputs, hrepeats⟩ := runsTo_of_run_owed (pending.repeated (n.setWidth 32) 1) owed
  obtain ⟨hprev, hcursor, hresponses, hstatus⟩ := once.trans hrepeats
  exact ⟨⟨_, first, owed, rfl, rfl, rfl, rfl⟩, t, runsTo_succ first hrun, hprev, hzero, hcursor, hinputs,
    Nat.add_comm 1 n.toNat ▸ hresponses, hstatus⟩

end Sys2Proof.Machine
end

section
/-! Proofs about the errors (60_exceptions.md R148 to R158): what PARSE_HEADER raises for a bad header, what NEXT can raise,
and that phase ERROR lasts until RESET. -/
namespace Sys2Proof.Machine

/-! The errors of NEXT. -/

/-- A NEXT that ends keeps ERRCODE or sets it to TruncatedStreamError, so every other error is PARSE_HEADER's (R154). -/
theorem nextPixel_errcode {s t : State} (h : nextPixel s = .done (.next t)) :
    t.errcode = s.errcode ∨ t.errcode = .truncated := by
  rcases nextPixel_done h with ⟨v, n, p, ht⟩ | ⟨-, -, -, n, stage, value, ht⟩ <;> cases ht
  · exact .inl rfl
  · exact .inr rfl

/-- NEXT never raises an error other than TruncatedStreamError (R148-R150). -/
theorem nextPixel_errcode_ne {code : ErrCode} (hcode : code ≠ .truncated) {s t : State}
    (h : nextPixel s = .done (.next t)) (hs : s.errcode ≠ code) : t.errcode ≠ code := by
  rcases nextPixel_errcode h with same | truncated
  · rw [same]; exact hs
  · rw [truncated]; exact hcode.symm

/-- Settles O37: a NEXT in phase ERROR has raised for missing bytes, which a kind of length 1 never misses once its op byte is
there. -/
theorem missingDataByteIsTruncated : Obligations.MissingDataByteIsTruncated := by
  refine ⟨fun s t hpixels h herror => ?_, fun s op data hr he ha => ⟨fun _ short => ⟨?_, ?_⟩, fun hkind => ?_⟩⟩
  · obtain ⟨_, ht, raises⟩ := nextFailsOnlyByTruncation s _ hpixels h
    cases ht
    obtain ⟨-, -, truncated, -⟩ := raises herror
    exact truncated
  · rw [nextPixel_of_operand_missing hr he ha short, Nat.add_comm 1]
  · have length : s.source.length - s.cursor = data.length + 1 := by
      rw [← List.length_drop, ← State.available, ha, List.length_cons]
    omega
  · have single : kindLength (kindOf op) = 1 := by rcases hkind with hk | hk | hk <;> rw [hk] <;> rfl
    obtain ⟨-, decodes⟩ := onlyMissingBytesFailToDecode
    obtain ⟨i, -, decoded⟩ := (decodes op data).1 (by omega)
    obtain ⟨t, hexec, -, -, status⟩ := exec_completes i s
    exact ⟨t, by rw [nextPixel_of_decode hr (ha ▸ decoded), hexec], status⟩

/-! The errors of PARSE_HEADER. -/

/-- At the start of the stream every byte of the source is there to be read. -/
theorem State.available_of_cursor_zero {s : State} (h : s.cursor = 0) : s.available = s.source := by
  rw [State.available, h, List.drop_zero]

/-- Once the magic can be judged, one that is bad or cut is raised past the bytes of it that are there (R91, R148). -/
theorem parseHeader_of_bad_magic {s : State} (enough : 4 ≤ s.available.length ∨ s.exhausted = true)
    (bad : s.available.take 4 ≠ magic) :
    parseHeader s = .done (.next (failedAt s (min 4 s.available.length) .format .magic 0)) := by
  unfold parseHeader
  rcases Nat.lt_or_ge s.available.length 4 with short | four
  · rw [inBytes_short short (enough.resolve_left (Nat.not_le.mpr short)), Nat.min_eq_right short.le]
    rfl
  · rw [inBytes_eq, if_pos four, Nat.min_eq_left four]
    exact if_pos bad

/-- An error raised in a session that has read and emitted nothing (R35). -/
theorem failedAt_errinfo_of_start {s : State} (hcursor : s.cursor = 0) (hemitted : s.emitted = 0) (n : Nat)
    (code : ErrCode) (stage : Stage) (value : Byte) :
    (failedAt s n code stage value).errinfo = { stage := stage, value := value, offset := n, pixel := 0 } := by
  simp [failedAt, hcursor, hemitted]

/-- Settles O15: the four bytes of the magic, or all there are of them, are read before the raise. -/
theorem badMagicIsFormatError : Obligations.BadMagicIsFormatError := by
  refine ⟨fun s hcursor hemitted enough bad => ?_, fun s t => nextPixel_errcode_ne (by decide)⟩
  rw [← State.available_of_cursor_zero hcursor] at enough bad ⊢
  exact ⟨parseHeader_of_bad_magic enough bad, failedAt_errinfo_of_start hcursor hemitted ..⟩

/-- A source that begins with the 14 bytes of a header has its two enum fields checked (R86, R91). -/
theorem parseHeader_of_headerBytes {s : State} {w h : U32} {c cs : Byte} {rest : List Byte} (hcursor : s.cursor = 0)
    (hsource : s.source = headerBytes w h c cs ++ rest) :
    ∃ wb hb, parseHeader s = checkHeader wb hb c cs (s.consume 14) :=
  ⟨_, _, parseHeader_of_available
    (w := [w.extractLsb' 24 8, w.extractLsb' 16 8, w.extractLsb' 8 8, w.extractLsb' 0 8])
    (h := [h.extractLsb' 24 8, h.extractLsb' 16 8, h.extractLsb' 8 8, h.extractLsb' 0 8]) rfl rfl
    ((State.available_of_cursor_zero hcursor).trans hsource)⟩

/-- An illegal channels byte is raised, whatever the colour-space byte is (R96, R149). -/
theorem checkHeader_of_bad_channels {w h : List Byte} {c cs : Byte} {s : State} (h3 : c ≠ 3) (h4 : c ≠ 4) :
    checkHeader w h c cs s = raised .unsupported .channels c s :=
  if_pos (Bool.or_eq_false_iff.mpr ⟨beq_false_of_ne h3, beq_false_of_ne h4⟩)

/-- An illegal colour-space byte is raised once the channels byte has passed (R97, R150). -/
theorem checkHeader_of_bad_colorspace {w h : List Byte} {c cs : Byte} {s : State} (hc : c = 3 ∨ c = 4) (h0 : cs ≠ 0)
    (h1 : cs ≠ 1) : checkHeader w h c cs s = raised .unsupported .colorspace cs s := by
  have legal : legalChannels c = true := by obtain rfl | rfl := hc <;> rfl
  have illegal : legalColorspace cs = false :=
    Bool.or_eq_false_iff.mpr ⟨beq_false_of_ne h0, beq_false_of_ne h1⟩
  simp [checkHeader, legal, illegal]

/-- Settles O16: all 14 bytes are read before the channels check raises. -/
theorem badChannelsIsUnsupported : Obligations.BadChannelsIsUnsupported := by
  refine ⟨fun s w h c cs rest hcursor hemitted hsource h3 h4 => ?_, fun s t => nextPixel_errcode_ne (by decide)⟩
  obtain ⟨_, _, checks⟩ := parseHeader_of_headerBytes hcursor hsource
  exact ⟨_, checks.trans (checkHeader_of_bad_channels h3 h4), rfl, failedAt_errinfo_of_start hcursor hemitted .., rfl⟩

/-- Settles O17: the colour-space check raises after the channels check has passed. -/
theorem badColorspaceIsUnsupported : Obligations.BadColorspaceIsUnsupported := by
  refine ⟨fun s w h c cs rest hcursor hemitted hsource hc h0 h1 => ?_, fun s t => nextPixel_errcode_ne (by decide)⟩
  obtain ⟨_, _, checks⟩ := parseHeader_of_headerBytes hcursor hsource
  exact ⟨_, checks.trans (checkHeader_of_bad_colorspace hc h0 h1), rfl, failedAt_errinfo_of_start hcursor hemitted ..⟩

/-! Phase ERROR. -/

/-- Phase ERROR admits RESET alone (R33, R158). -/
theorem eq_reset_of_admits_error {c : Command} (h : admits .error c = true) : c = .reset := by
  cases c with
  | reset => rfl
  | parseHeader | next => simp [admits] at h

/-- No command holds in phase ERROR: the phase admits none that could (R50, R158). -/
theorem Invariant.held_eq_none_of_error {s : State} (hinv : Invariant s) (hphase : s.phase = .error) : s.held = none := by
  cases hh : s.held with
  | none => rfl
  | some c =>
    obtain ⟨hc, ha, -⟩ := hinv.held_admitted c hh
    exact absurd (eq_reset_of_admits_error (hphase ▸ ha)) hc

/-- With no command held a step receives the next input (R50). -/
theorem step_of_input {s : State} {i : Input} {rest : List Input} (hh : s.held = none) (hi : s.inputs = i :: rest) :
    step s = receive i (s.withInputs rest) := by
  simp [step, advance, takeInput, hh, hi]

/-- A command other than RESET that PHASE does not admit is refused (R166). -/
theorem issue_of_not_admitted {c : Command} {s : State} (hc : c ≠ .reset) (hh : s.held = none)
    (ha : admits s.phase c = false) : issue c s = .next s.markRefused := by
  cases c with
  | reset => exact absurd rfl hc
  | parseHeader | next => simp [issue, issueWork, hh, ha]

/-- Settles O49, by cases on what the step has done: a command that holds or ends was admitted, and in phase ERROR that is
RESET alone. -/
theorem errorsAreTerminal : Obligations.ErrorsAreTerminal := by
  intro s hinv hphase
  have idle : s.held = none := hinv.held_eq_none_of_error hphase
  refine ⟨fun t hstep => ?_, fun c rest hc hi => ?_, fun rest hi => ?_⟩
  · cases step_move hstep with
    | stay | byte | eos | read | refuse => exact .inl ⟨hphase, rfl, rfl, rfl, rfl, rfl⟩
    | reset rest hi => exact .inr ⟨rest, hi⟩
    | heldReset hh | resume _ _ _ hh => cases idle.symm.trans hh
    | hold _ _ hc _ _ ha | work _ _ _ hc _ _ ha => exact absurd (eq_reset_of_admits_error (hphase ▸ ha)) hc
  · have refuses : admits s.phase c = false :=
      Bool.eq_false_of_not_eq_true fun ha => hc (eq_reset_of_admits_error (hphase ▸ ha))
    exact (step_of_input idle hi).trans (issue_of_not_admitted hc idle refuses)
  · exact ⟨_, step_of_input idle hi, rfl, rfl⟩

end Sys2Proof.Machine
end

section
/-! Proofs about the reset state (70_reset_and_hazards.md R174). -/
namespace Sys2Proof.Machine

/-- Every cache entry has its reset value (R174). -/
theorem reset_cacheGet (i : BitVec 6) : State.reset.cacheGet i = Config.cacheReset := by
  simp [State.cacheGet, State.reset]

/-- Settles O51: `State.reset` gives every piece its listed value, the cache entries by `reset_cacheGet`; a header register has
none, so its read faults, and phase HEADER admits PARSE_HEADER and RESET. -/
theorem resetStateAsListed : Obligations.ResetStateAsListed :=
  ⟨rfl, rfl, reset_cacheGet, rfl, rfl, rfl, rfl, rfl, rfl, rfl, rfl, rfl, rfl, rfl, rfl, rfl, rfl, rfl, rfl, rfl, rfl⟩

end Sys2Proof.Machine
end

section
/-! Proofs that the decoder, the encoder and the assembler lose nothing (30_encoding.md R81, R85, R87): the bytes of an opcode,
its instruction and its line of assembly determine each other. -/
namespace Sys2Proof
open Machine

/-! Bytes and instructions. -/

/-- An op byte is its tag and its six low bits (R73-R79). -/
theorem opByte_eq {op : Byte} {tag : BitVec 2} (h : op.extractLsb' 6 2 = tag) : tag ++ op.extractLsb' 0 6 = op :=
  h ▸ (BitVec.extractLsb'_append_extractLsb'_eq_extractLsb' rfl).trans BitVec.extractLsb'_eq_self

/-- DIFF's six low bits are its three fields (R74). -/
theorem diffByte_eq {op : Byte} (h : op.extractLsb' 6 2 = 0b01) :
    0b01#2 ++ op.extractLsb' 4 2 ++ op.extractLsb' 2 2 ++ op.extractLsb' 0 2 = op := by
  revert op; decide

/-- LUMA's data byte is its two fields (R76). -/
theorem lumaData_eq (b : Byte) : b.extractLsb' 4 4 ++ b.extractLsb' 0 4 = b :=
  (BitVec.extractLsb'_append_extractLsb'_eq_extractLsb' rfl).trans BitVec.extractLsb'_eq_self

/-- The test of R80 that an op byte of this kind has passed. -/
def Kind.Selects (k : Kind) (op : Byte) : Prop :=
  match k with
  | .index => op.extractLsb' 6 2 = 0b00
  | .diff => op.extractLsb' 6 2 = 0b01
  | .luma => op.extractLsb' 6 2 = 0b10
  | .run => op.extractLsb' 6 2 = 0b11
  | .rgb => op = 0xFE
  | .rgba => op = 0xFF

theorem kindOf_selects (op : Byte) : (kindOf op).Selects op := by
  cases hk : kindOf op with
  | run =>
    obtain ⟨-, -, tag⟩ := opByte_of_kindOf_run hk
    exact tag
  | index | diff | luma | rgb | rgba =>
    unfold kindOf at hk
    split_ifs at hk
    assumption

/-- What is decoded as the kind whose test the op byte has passed is encoded as the bytes it came from. -/
theorem encode_of_decodeAs {k : Kind} {op : Byte} {data rest : List Byte} {i : Instr} (hk : k.Selects op)
    (h : decodeAs k op data = .ok (i, rest)) : encode i ++ rest = op :: data := by
  cases k with
  | index | run =>
    cases h
    exact congrArg (· :: data) (opByte_eq hk)
  | diff =>
    cases h
    exact congrArg (· :: data) (diffByte_eq hk)
  | luma =>
    match data, h with
    | b2 :: tail, h =>
      cases h
      exact congrArg₂ (· :: · :: rest) (opByte_eq hk) (lumaData_eq b2)
  | rgb =>
    match data, h with
    | _ :: _ :: _ :: _, h => cases h; cases hk; rfl
  | rgba =>
    match data, h with
    | _ :: _ :: _ :: _ :: _, h => cases h; cases hk; rfl

/-- Settles O1: each kind's op byte and its fields are read back. -/
theorem decodeOfEncodeIsIdentity : Obligations.DecodeOfEncodeIsIdentity := fun _ rest h => decode_encode h rest

/-- Settles O2: the op byte has passed the test of its kind, so the encoder writes the same tag, and the fields fill the rest. -/
theorem decodedBytesAreItsEncoding : Obligations.DecodedBytesAreItsEncoding := by
  intro bs rest i h
  cases bs with
  | nil => cases h
  | cons op data => exact ⟨wellFormed_of_decode h, (encode_of_decodeAs (kindOf_selects op) h).symm⟩

/-- The opcode table's word for a LUMA has the op byte in its low byte, then the data byte (log 15). -/
theorem tableBytes_luma : tableBytes 16 0x0F94 = encode (.luma 20 0 15) ++ [0, 0, 0] := rfl

/-- Settles O5: each list of bytes is the encoding of the instruction it stands for. -/
theorem wordsWrittenFromTheSpecDecode : Obligations.WordsWrittenFromTheSpecDecode := by
  refine ⟨decode_encode (i := .index 53) rfl [], decode_encode (i := .diff 1 0 3) rfl [],
    decode_encode (i := .luma 20 0 15) rfl [], decode_encode (i := .run 61) rfl [],
    decode_encode (i := .rgb 0x16 0x00 0x07) rfl [], decode_encode (i := .rgba 0x11 0x22 0x33 0x44) rfl [], ?_⟩
  rw [decodeTableWord, tableBytes_luma, decode_encode rfl]

/-! Instructions and lines of assembly. -/

theorem inRange_iff {lo hi v : Int} : inRange lo hi v = true ↔ lo ≤ v ∧ v ≤ hi := decide_eq_true_iff

/-- A number that fits a field is what the field holds. -/
theorem toNat_ofInt_of_fits {w : Nat} {v : Int} (nonneg : 0 ≤ v) (fits : v < 2 ^ w) :
    ((BitVec.ofInt w v).toNat : Int) = v := by
  rw [BitVec.toNat_ofInt, Int.toNat_of_nonneg (Int.emod_nonneg _ (by positivity))]
  exact Int.emod_eq_of_lt nonneg (by exact_mod_cast fits)

/-- The relative deltas of a line of LUMA are the fields less the bias 8 (R76, R86). -/
theorem lumaRelative_sub_green (ugreen : BitVec 6) (u : BitVec 4) :
    lumaRelative ugreen u - lumaGreen ugreen = (u.toNat : Int) - 8 := by
  unfold lumaRelative
  omega

/-- The line of an instruction that has an encoding is in range, and stands for that instruction. -/
theorem assemble_disassemble {i : Instr} (h : i.wellFormed = true) : assemble (disassemble i) = some i := by
  have byte : ∀ b : Byte, inRange 0 255 b.toNat = true := fun b => inRange_iff.mpr (by omega)
  cases i with
  | index i =>
    have fits : inRange 0 63 i.toNat = true := inRange_iff.mpr (by omega)
    simp [disassemble, assemble, fits]
  | diff ur ug ub =>
    have fits : ∀ u : BitVec 2, inRange (-2) 1 ((u.toNat : Int) - 2) = true := fun u => inRange_iff.mpr (by omega)
    simp [disassemble, assemble, diffDelta, fits]
  | luma ugreen urg ubg =>
    have green : inRange (-32) 31 ((ugreen.toNat : Int) - 32) = true := inRange_iff.mpr (by omega)
    have relative : ∀ u : BitVec 4, inRange (-8) 7 ((u.toNat : Int) - 8) = true := fun u => inRange_iff.mpr (by omega)
    simp only [disassemble, lumaRelative_sub_green]
    simp [assemble, lumaGreen, green, relative]
  | run n =>
    have field : n.toNat ≤ 61 := of_decide_eq_true h
    have fits : inRange 1 62 ((n.toNat : Int) + 1) = true := inRange_iff.mpr (by omega)
    simp [disassemble, assemble, fits]
  | rgb r g b => simp [disassemble, assemble, byte]
  | rgba r g b a => simp [disassemble, assemble, byte]

/-- A line in range stands for an instruction that has an encoding, and is the line of that instruction. -/
theorem disassemble_of_assemble {l : AsmLine} {i : Instr} (h : assemble l = some i) :
    i.wellFormed = true ∧ disassemble i = l := by
  have byte : ∀ v : Int, 0 ≤ v ∧ v ≤ 255 → ((BitVec.ofInt 8 v).toNat : Int) = v := fun v hv =>
    toNat_ofInt_of_fits hv.1 (by omega)
  cases l <;>
    simp only [assemble, Bool.and_eq_true, inRange_iff, Option.ite_none_right_eq_some, Option.some.injEq] at h <;>
    obtain ⟨range, rfl⟩ := h
  case index v => exact ⟨rfl, congrArg AsmLine.index (toNat_ofInt_of_fits (by omega) (by omega))⟩
  case diff dr dg db =>
    have delta : ∀ v : Int, -2 ≤ v ∧ v ≤ 1 → diffDelta (.ofInt 2 (v + 2)) = v := fun v hv => by
      rw [diffDelta, toNat_ofInt_of_fits (by omega) (by omega), Int.add_sub_cancel]
    obtain ⟨⟨hr, hg⟩, hb⟩ := range
    exact ⟨rfl, by rw [disassemble, delta dr hr, delta dg hg, delta db hb]⟩
  case luma dg drdg dbdg =>
    have relative : ∀ v : Int, -8 ≤ v ∧ v ≤ 7 → ((BitVec.ofInt 4 (v + 8)).toNat : Int) - 8 = v := fun v hv => by
      rw [toNat_ofInt_of_fits (by omega) (by omega), Int.add_sub_cancel]
    obtain ⟨⟨hg, hr⟩, hb⟩ := range
    refine ⟨rfl, ?_⟩
    rw [disassemble, lumaRelative_sub_green, lumaRelative_sub_green, relative drdg hr, relative dbdg hb, lumaGreen,
      toNat_ofInt_of_fits (by omega) (by omega), Int.add_sub_cancel]
  case run len =>
    have field : ((BitVec.ofInt 6 (len - 1)).toNat : Int) = len - 1 := toNat_ofInt_of_fits (by omega) (by omega)
    exact ⟨decide_eq_true (by omega), by rw [disassemble, field, Int.sub_add_cancel]⟩
  case rgb r g b =>
    obtain ⟨⟨hr, hg⟩, hb⟩ := range
    exact ⟨rfl, by rw [disassemble, byte r hr, byte g hg, byte b hb]⟩
  case rgba r g b a =>
    obtain ⟨⟨⟨hr, hg⟩, hb⟩, ha⟩ := range
    exact ⟨rfl, by rw [disassemble, byte r hr, byte g hg, byte b hb, byte a ha]⟩

/-- Settles O6, one direction each: `assemble_disassemble` and `disassemble_of_assemble`. -/
theorem assemblyAndInstructionsAgree : Obligations.AssemblyAndInstructionsAgree :=
  ⟨fun _ => assemble_disassemble, fun _ _ => disassemble_of_assemble⟩

end Sys2Proof
end

section
/-! Proofs about the invariants of 10_state.md R42 with the model's additions: the reset state meets them, each update of the
state keeps them where the commands use it, and so every step keeps them. -/
namespace Sys2Proof.Machine

/-! What comes from outside. -/

theorem Invariant.withInputs {s : State} (h : Invariant s) (rest : List Input) : Invariant (s.withInputs rest) :=
  { h with }

theorem Invariant.exhaust {s : State} (h : Invariant s) : Invariant s.exhaust := { h with }

theorem Invariant.setHeld_none {s : State} (h : Invariant s) : Invariant (s.setHeld none) :=
  { h with held_admitted := nofun }

/-- The byte source only grows (R46, R51). -/
theorem Invariant.deliver {s : State} (h : Invariant s) (v : Byte) : Invariant (s.deliver v) := by
  have grows : s.source.length ≤ (s.deliver v).source.length := by
    rw [State.deliver_source]; split <;> simp
  exact { h with cursor_le := h.cursor_le.trans grows }

/-- A read of the status view is no pixel (R37). -/
theorem Invariant.respond_view {s : State} (h : Invariant s) (v : ViewValue) : Invariant (s.respond (.view v)) :=
  { h with session_counted := fun ht => by simpa using h.session_counted ht }

/-- A command is refused only while none holds (R166). -/
theorem Invariant.markRefused {s : State} (h : Invariant s) (idle : s.held = none) : Invariant s.markRefused :=
  { h with held_admitted := fun c hc => by simp [idle] at hc }

/-- A command that comes to hold has been admitted (R50). -/
theorem Invariant.setHeld_admitted {s : State} (h : Invariant s) {c : Command} (hc : c ≠ .reset)
    (ha : admits s.phase c = true) (hr : s.refused = false) : Invariant (s.setHeld (some c)) :=
  { h with held_admitted := fun _ hd => by cases hd; exact ⟨hc, ha, hr⟩ }

/-- RESET gives every register its reset value; the responses kept from before are of no session (R173). -/
theorem Invariant.restart (s : State) : Invariant s.restart where
  runcnt_le := by simp
  header_known := by simp
  pixels_left := by simp
  all_emitted := by simp
  header_fresh := fun _ => ⟨rfl, rfl, rfl, rfl, rfl⟩
  error_iff := by simp
  emitted_le := by simp
  cursor_le := le_refl _
  run_after_pixel := by simp
  prev_cached := by simp
  header_unknown := fun _ => ⟨rfl, rfl, rfl, rfl, rfl⟩
  no_error_info := fun _ => rfl
  held_admitted := by simp
  session_counted := by simp

/-- Settles O55: the reset state is what RESET makes of it. -/
theorem resetMeetsTheInvariant : Obligations.ResetMeetsTheInvariant := Invariant.restart State.reset

/-! What ends a command. -/

/-- Bytes that are there may be consumed (R49). -/
theorem Invariant.cursor_add_le {s : State} (h : Invariant s) {n : Nat} (hn : n ≤ s.available.length) :
    s.cursor + n ≤ s.source.length := by
  have cursor := h.cursor_le
  rw [State.available, List.length_drop] at hn
  omega

/-- An idle block may raise past bytes that are there: every other clause is about another phase, or about what a raise keeps
(R157). -/
theorem Invariant.failedAt {s : State} (h : Invariant s) (idle : s.held = none) {n : Nat} (hn : n ≤ s.available.length)
    {code : ErrCode} (hcode : code ≠ .none) (stage : Stage) (value : Byte) :
    Invariant (failedAt s n code stage value) where
  runcnt_le := h.runcnt_le
  header_known := by simp [Machine.failedAt]
  pixels_left := by simp [Machine.failedAt]
  all_emitted := by simp [Machine.failedAt]
  header_fresh := by simp [Machine.failedAt]
  error_iff := by simp [Machine.failedAt, hcode]
  emitted_le := h.emitted_le
  cursor_le := h.cursor_add_le hn
  run_after_pixel := h.run_after_pixel
  prev_cached := h.prev_cached
  header_unknown := by simp [Machine.failedAt]
  no_error_info := fun hnone => absurd hnone hcode
  held_admitted := by simp [Machine.failedAt, idle]
  session_counted := fun ht => by simpa [Machine.failedAt] using h.session_counted ht

/-- In phase PIXELS a pixel is left, so EMITTED counts on without wrapping (R42.3). -/
theorem Invariant.emitted_succ {s : State} (h : Invariant s) (hpixels : s.phase = .pixels) {total : U64}
    (htotal : s.total = some total) :
    (s.emitted + 1).toNat = s.emitted.toNat + 1 ∧ s.emitted.toNat + 1 ≤ total.toNat := by
  have left := h.pixels_left hpixels total htotal
  exact ⟨by bv_omega, left⟩

/-- The session of an empty image ends with its header (R98). -/
theorem phaseAfterHeader_eq_done {total : U64} : phaseAfterHeader total = .done ↔ total = 0 := by
  simp [phaseAfterHeader]

theorem phaseAfterHeader_eq_pixels {total : U64} : phaseAfterHeader total = .pixels ↔ total ≠ 0 := by
  simp [phaseAfterHeader]

theorem legalChannels_iff {c : Byte} : legalChannels c = true ↔ c = 3 ∨ c = 4 := by simp [legalChannels]

theorem legalColorspace_iff {cs : Byte} : legalColorspace cs = true ↔ cs = 0 ∨ cs = 1 := by simp [legalColorspace]

/-- A phase other than ERROR has recorded no error (R42.5). -/
theorem Invariant.errcode_eq_none {s : State} (h : Invariant s) (hphase : s.phase ≠ .error) : s.errcode = .none :=
  not_not.mp (mt h.error_iff.mp hphase)

/-- A successful PARSE_HEADER starts a session in which no pixel is emitted yet (R98). -/
theorem Invariant.storeHeader {s : State} (h : Invariant s) (idle : s.held = none) (hheader : s.phase = .header)
    (h14 : 14 ≤ s.available.length) {c cs : Byte} (hc : legalChannels c = true) (hcs : legalColorspace cs = true)
    (w ht : U32) : Invariant ((s.consume 14).storeHeader w ht c cs) := by
  obtain ⟨fresh, -, -, -, -⟩ := h.header_fresh hheader
  have noError : s.errcode = .none := h.errcode_eq_none (by simp [hheader])
  have notHeader : phaseAfterHeader (pixelCount w ht) ≠ .header := by
    rcases phaseAfterHeader_cases (pixelCount w ht) with hp | hp <;> simp [hp]
  have notError : phaseAfterHeader (pixelCount w ht) ≠ .error := by
    rcases phaseAfterHeader_cases (pixelCount w ht) with hp | hp <;> simp [hp]
  exact
    { runcnt_le := h.runcnt_le
      header_known := fun _ => ⟨w, ht, c, cs, rfl, rfl, rfl, rfl, legalChannels_iff.mp hc, legalColorspace_iff.mp hcs,
        rfl, Nat.le_add_left 14 s.cursor⟩
      pixels_left := fun hp total htotal => by
        have some_pixel := phaseAfterHeader_eq_pixels.mp hp
        cases htotal
        show s.emitted.toNat < (pixelCount w ht).toNat
        rw [fresh]
        bv_omega
      all_emitted := fun hp => congrArg some ((phaseAfterHeader_eq_done.mp hp).trans fresh.symm)
      header_fresh := fun hp => absurd hp notHeader
      error_iff := iff_of_false (not_not.mpr noError) notError
      emitted_le := by simp [fresh]
      cursor_le := h.cursor_add_le h14
      run_after_pixel := h.run_after_pixel
      prev_cached := h.prev_cached
      header_unknown := fun hp => absurd hp notHeader
      no_error_info := h.no_error_info
      held_admitted := by simp [idle]
      session_counted := by simp [fresh] }

/-- After a pixel PHASE is DONE exactly when EMITTED has reached TOTAL, and PIXELS else (R114). -/
theorem State.produce_phase_of_pixels {s : State} (hpixels : s.phase = .pixels) (v : U32) (n : Nat) (p : Pixel) :
    (s.total = some (s.emitted + 1) ∧ ((s.setRuncnt v).produce n p).phase = .done) ∨
    (s.total ≠ some (s.emitted + 1) ∧ ((s.setRuncnt v).produce n p).phase = .pixels) :=
  ((s.setRuncnt v).produce_phase_cases n p).imp_right fun ⟨more, same⟩ => ⟨more, same.trans hpixels⟩

/-- The common end of a pixel, in an idle block in phase PIXELS, emits the next pixel of the session (R106). -/
theorem Invariant.produce {s : State} (h : Invariant s) (idle : s.held = none) (hpixels : s.phase = .pixels) {v : U32}
    (hv : v.toNat ≤ 61) {n : Nat} (hn : n ≤ s.available.length) (p : Pixel) :
    Invariant ((s.setRuncnt v).produce n p) := by
  obtain ⟨w, ht, c, cs, hw, hht, hc, hcs, legal_c, legal_cs, htotal, h14⟩ := h.header_known (.inl hpixels)
  obtain ⟨succ, left⟩ := h.emitted_succ hpixels htotal
  have emitted : s.emitted + 1 ≠ 0 := by bv_omega
  have phase := State.produce_phase_of_pixels hpixels v n p
  have notHeader : ((s.setRuncnt v).produce n p).phase ≠ .header := by
    rcases phase with ⟨-, hp⟩ | ⟨-, hp⟩ <;> rw [hp] <;> decide
  exact
    { runcnt_le := hv
      header_known := fun _ => ⟨w, ht, c, cs, hw, hht, hc, hcs, legal_c, legal_cs, htotal, Nat.le_add_right_of_le h14⟩
      pixels_left := fun hp => by
        rcases phase with ⟨-, hp'⟩ | ⟨more, -⟩
        · cases hp.symm.trans hp'
        · intro total ht
          cases htotal.symm.trans ht
          exact succ ▸ lt_of_le_of_ne left fun last => more (by rw [htotal, BitVec.eq_of_toNat_eq (succ.trans last)])
      all_emitted := fun hp => by
        rcases phase with ⟨last, -⟩ | ⟨-, hp'⟩
        · exact last
        · cases hp.symm.trans hp'
      header_fresh := fun hp => absurd hp notHeader
      error_iff := iff_of_false (not_not.mpr (h.errcode_eq_none (by simp [hpixels])))
        (State.produce_phase_ne_error hpixels v n p)
      emitted_le := fun t ht => by
        cases htotal.symm.trans ht
        exact succ ▸ left
      cursor_le := h.cursor_add_le hn
      run_after_pixel := fun _ => emitted
      prev_cached := fun _ => (State.cacheGet_produce n p _ _).trans (if_pos rfl)
      header_unknown := fun hp => absurd hp notHeader
      no_error_info := h.no_error_info
      held_admitted := by simp [idle]
      session_counted := fun ht => by
        have counted := h.session_counted ht
        rw [State.produce_responses, State.produce_emitted, sessionPixels_pixel, List.length_append]
        exact (congrArg (· + 1) counted).trans succ.symm }

/-! The commands. -/

/-- RUNCNT stays in 0..61 over an opcode that has an encoding (R79). -/
theorem runcntOf_le {i : Instr} {s : State} (hi : i.wellFormed = true) (hs : s.runcnt.toNat ≤ 61) :
    (runcntOf i s).toNat ≤ 61 := by
  cases i with
  | run n =>
    rw [runcntOf, BitVec.toNat_setWidth_of_le (by decide)]
    exact of_decide_eq_true hi
  | index | diff | luma | rgb | rgba => exact hs

/-- NEXT is admitted in phase PIXELS alone (R33). -/
theorem phase_of_admits_next {p : Phase} (h : admits p .next = true) : p = .pixels := by
  cases p with
  | pixels => rfl
  | header | done | error => simp [admits] at h

theorem Invariant.nextPixel {s t : State} (h : Invariant s) (idle : s.held = none) (hpixels : s.phase = .pixels)
    (hn : nextPixel s = .done (.next t)) : Invariant t := by
  rcases nextPixel_cases s with
    ⟨hr, hs⟩ | ⟨hr, i, rest, hd, hs⟩ | ⟨-, ha, -, hs⟩ | ⟨-, -, _, _, -, -, hs⟩ | ⟨-, -, -, hs⟩ <;> rw [hs] at hn
  · rw [continueRun_eq] at hn
    cases hn
    have le := h.runcnt_le
    exact h.produce idle hpixels (by bv_omega) (Nat.zero_le _) _
  · rw [exec_eq] at hn
    cases hn
    obtain ⟨wf, -⟩ := decodedBytesAreItsEncoding _ _ _ hd
    exact h.produce idle hpixels (runcntOf_le wf h.runcnt_le) (by rw [decode_length hd]; omega) _
  · cases hn
    exact h.failedAt idle (Nat.zero_le _) (by simp) _ _
  · cases hn
    exact h.failedAt idle (le_refl _) (by simp) _ _
  · cases hn

theorem Invariant.parseHeader {s t : State} (h : Invariant s) (idle : s.held = none) (hheader : s.phase = .header)
    (hp : parseHeader s = .done (.next t)) : Invariant t := by
  rcases parseHeader_end s with ⟨-, -, hs⟩ | ⟨_, _, _, k, hk, -, hcode, hs⟩ | ⟨w, ht, c, cs, hc, hcs, h14, hs⟩ <;>
    rw [hs] at hp <;> cases hp
  · exact h.failedAt idle hk hcode _ _
  · exact h.storeHeader idle hheader h14 hc hcs w ht

/-- An admitted command other than RESET that ends, issued or held, keeps the invariant. -/
theorem Invariant.attempt {c : Command} {s t : State} (h : Invariant s) (idle : s.held = none) (hc : c ≠ .reset)
    (ha : admits s.phase c = true) (hw : attempt c s = .done (.next t)) : Invariant t := by
  cases c with
  | reset => exact absurd rfl hc
  | parseHeader => exact h.parseHeader idle (phase_of_admits_parseHeader ha) hw
  | next => exact h.nextPixel idle (phase_of_admits_next ha) hw

/-- Settles O56, by cases on what the step has done: each is an update that keeps the invariant. -/
theorem everyStepKeepsTheInvariant : Obligations.EveryStepKeepsTheInvariant := by
  intro s t h hstep
  cases step_move hstep with
  | stay => exact h
  | byte v rest => exact (h.withInputs rest).deliver v
  | eos rest => exact (h.withInputs rest).exhaust
  | read f v rest => exact (h.withInputs rest).respond_view v
  | reset | heldReset => exact Invariant.restart _
  | refuse c rest hi idle => exact (h.withInputs rest).markRefused idle
  | hold c rest hc hi idle ha hr => exact (h.withInputs rest).setHeld_admitted hc ha hr
  | work c rest _ hc hi idle ha hr hw => exact (h.withInputs rest).attempt idle hc ha hw
  | resume c _ hc hh hw =>
    obtain ⟨-, ha, -⟩ := h.held_admitted c hh
    exact h.setHeld_none.attempt rfl hc ha hw

end Sys2Proof.Machine
end

section
/-! Proofs about what a step does with its next input, and when it stops (20_memory.md R50; 60_exceptions.md R163, R166, R171;
70_reset_and_hazards.md R173, R175): a waiting block receives it, a command that PHASE admits is performed. -/
namespace Sys2Proof.Machine

/-! The next input. -/

/-- The block receives its next input: it is idle, or the command it holds still lacks bytes (R50). -/
def Waiting (s : State) : Prop := s.held = none ∨ ∃ c, s.held = some c ∧ attempt c (s.setHeld none) = .hold

theorem Waiting.step_eq {s : State} (h : Waiting s) : step s = takeInput s := by
  rcases h with idle | ⟨c, held, lacks⟩
  · simp [step, advance, idle]
  · simp [step, advance, held, lacks]

/-- With nothing more from outside a waiting block stays as it is (R163; log 4). -/
theorem Waiting.step_of_no_input {s : State} (h : Waiting s) (hi : s.inputs = []) : step s = .next s := by
  rw [h.step_eq, takeInput, hi]

theorem Waiting.step_of_input {s : State} (h : Waiting s) {i : Input} {rest : List Input} (hi : s.inputs = i :: rest) :
    step s = receive i (s.withInputs rest) := by
  rw [h.step_eq, takeInput, hi]

/-- A held command that ends is the step (R50). -/
theorem step_of_held {s : State} {c : Command} {a : Answer} (held : s.held = some c)
    (ends : attempt c (s.setHeld none) = .done a) : step s = a := by
  simp [step, advance, held, ends]

/-- A command other than RESET, issued to an idle block (R166). -/
theorem issue_of_idle {c : Command} {s : State} (hc : c ≠ .reset) (idle : s.held = none) :
    issue c s = issueWork c s := by
  cases c with
  | reset => exact absurd rfl hc
  | parseHeader | next => simp [issue, idle]

/-- A command other than RESET, issued while one holds (R171; log 7). -/
theorem issue_of_held {c d : Command} {s : State} (hc : c ≠ .reset) (held : s.held = some d) :
    issue c s = .refused (.concurrentCommand c) := by
  cases c with
  | reset => exact absurd rfl hc
  | parseHeader | next => simp [issue, held]

/-- A command that PHASE admits is performed (R105, R166). -/
theorem step_of_admitted {s : State} {c : Command} {rest : List Input} (hc : c ≠ .reset) (idle : s.held = none)
    (hr : s.refused = false) (ha : admits s.phase c = true) (hi : s.inputs = .command c :: rest) :
    step s = perform c (s.withInputs rest) := by
  rw [step_of_input idle hi, receive, issue_of_idle (s := s.withInputs rest) hc idle]
  simp [issueWork, ha, hr]

theorem perform_of_done {c : Command} {s : State} {a : Answer} (h : attempt c s = .done a) : perform c s = a := by
  rw [perform, h]

theorem perform_of_hold {c : Command} {s : State} (h : attempt c s = .hold) :
    perform c s = .next (s.setHeld (some c)) := by
  rw [perform, h]

/-- Settles O54: an idle block is waiting, and a step that changes nothing may be repeated. -/
theorem idleBlockStaysAsItIs : Obligations.IdleBlockStaysAsItIs := by
  intro s idle hi
  have stays : step s = .next s := Waiting.step_of_no_input (.inl idle) hi
  refine ⟨stays, fun k => ?_⟩
  induction k with
  | zero => rfl
  | succ k ih => exact runsTo_succ stays ih

/-- Settles O52: a waiting block receives RESET in every phase. -/
theorem resetCommandStartsAfresh : Obligations.ResetCommandStartsAfresh := fun _ _ hi waiting =>
  Waiting.step_of_input waiting hi

/-- Settles O59: a waiting block receives the byte source's answers. -/
theorem sourceAnswersAreTaken : Obligations.SourceAnswersAreTaken := by
  intro s rest waiting
  have received : ∀ i, s.inputs = i :: rest → step s = receive i (s.withInputs rest) := fun i =>
    Waiting.step_of_input waiting
  refine ⟨fun v hi he => ?_, fun v hi he => ?_, fun hi => received _ hi⟩
  · rw [received _ hi, receive]
    simp [State.deliver, State.withInputs, he]
  · rw [received _ hi, receive]
    simp [State.deliver, State.withInputs, he]

/-! The hold on the byte source. -/

/-- Where the source has a byte at CURSOR, `InByte()` returns it (R50). -/
theorem inByte_of_byte {s : State} {v : Byte} (h : s.source[s.cursor]? = some v) : inByte s = .got v (s.consume 1) := by
  obtain ⟨tail, ha⟩ := List.head?_eq_some_iff.mp (s.head?_available.trans h)
  exact inByte_cons ha

/-- Where it has none, `InByte()` is EOS after the end of the source, and holds before it (R50). -/
theorem inByte_of_no_byte {s : State} (h : s.source[s.cursor]? = none) :
    inByte s = if s.exhausted then .eos s else .hold := by
  have ha : s.available = [] := List.head?_eq_none_iff.mp (s.head?_available.trans h)
  rw [inByte, ha]

/-- A held command that still lacks bytes stays held over a step, but for RESET (R50, R175). -/
theorem held_of_step_of_hold {s t : State} {c : Command} (held : s.held = some c)
    (lacks : attempt c (s.setHeld none) = .hold) (hstep : step s = .next t) : t.held = some c ∨ receivesReset s := by
  cases step_move hstep with
  | stay | byte | eos | read => exact .inl held
  | reset rest hi => exact .inr ⟨rest, hi⟩
  | refuse _ _ _ idle | hold _ _ _ _ idle | work _ _ _ _ _ idle => cases idle.symm.trans held
  | heldReset other =>
    cases other.symm.trans held
    cases lacks
  | resume _ _ _ other ends =>
    cases other.symm.trans held
    cases ends.symm.trans lacks

/-- Settles O7: `InByte()` by cases on the byte at CURSOR; a command that holds when issued is held, and then waits. -/
theorem holdUntilTheSourceAnswers : Obligations.HoldUntilTheSourceAnswers := by
  refine ⟨fun _ _ => inByte_of_byte, fun s h he => ?_, fun s h he => ?_, fun s c rest hc idle hr ha hi lacks => ?_,
    fun s c held lacks => ⟨fun hi => ?_, fun t => held_of_step_of_hold held lacks⟩⟩
  · rw [inByte_of_no_byte h, if_pos he]
  · rw [inByte_of_no_byte h, if_neg (by simp [he])]
  · exact (step_of_admitted hc idle hr ha hi).trans (perform_of_hold lacks)
  · have waiting : Waiting s := .inr ⟨c, held, lacks⟩
    exact waiting.step_of_no_input hi

/-! Commands. -/

/-- Settles O46: phase HEADER alone admits PARSE_HEADER, and PIXELS alone NEXT. -/
theorem refusedCommandOnlyMarks : Obligations.RefusedCommandOnlyMarks := by
  intro s c rest idle hi other
  have hc : c ≠ .reset := by rcases other with ⟨rfl, -⟩ | ⟨rfl, -⟩ <;> decide
  have refuses : admits s.phase c = false := by
    rw [Bool.eq_false_iff]
    rcases other with ⟨rfl, hphase⟩ | ⟨rfl, hphase⟩
    · exact mt phase_of_admits_parseHeader hphase
    · exact mt phase_of_admits_next hphase
  exact (step_of_input idle hi).trans (issue_of_not_admitted hc idle refuses)

/-- Settles O47: `issueWork` refuses an admitted command while REFUSED is set, and `issue` one beside a held command. -/
theorem commandsWithoutMeaningStop : Obligations.CommandsWithoutMeaningStop := by
  refine fun s c rest hc hi => ⟨fun idle ha hr => ?_, fun d held lacks => ?_⟩
  · rw [step_of_input idle hi, receive, issue_of_idle (s := s.withInputs rest) hc idle]
    simp [issueWork, ha, hr]
  · have waiting : Waiting s := .inr ⟨d, held, lacks⟩
    rw [waiting.step_of_input hi]
    exact issue_of_held hc held

/-- Settles O58: an admitted command that ends when issued or when held is the answer of the step. -/
theorem stepPerformsTheCommand : Obligations.StepPerformsTheCommand := by
  refine fun s a => ⟨fun rest idle hr hphase hi ends => ?_, fun rest idle hr hphase hi ends => ?_,
    step_of_held (c := .parseHeader), step_of_held (c := .next)⟩
  · rw [step_of_admitted (by decide) idle hr (by rw [hphase]; rfl) hi]
    exact perform_of_done ends
  · exact step_of_next hphase hr idle hi ends

/-- Settles O44: with no run owed a NEXT ends with exec of the instruction decoded. -/
theorem stepRunsTheDecodedInstruction : Obligations.StepRunsTheDecodedInstruction := fun _ _ _ hr hd =>
  ⟨fun _ idle hphase hrefused hi => step_of_next hphase hrefused idle hi (nextPixel_of_decode hr hd),
    fun held => step_of_held held (nextPixel_of_decode hr hd)⟩

/-- Settles O45: while a run is owed a NEXT ends with its continuation. -/
theorem stepContinuesTheRun : Obligations.StepContinuesTheRun := fun _ hr =>
  ⟨fun _ idle hphase hrefused hi => step_of_next hphase hrefused idle hi (nextPixel_of_run_owed hr),
    fun held => step_of_held held (nextPixel_of_run_owed hr)⟩

/-! The status view. -/

/-- The host reads a field that has a value (R37). -/
theorem Waiting.step_of_read {s : State} (h : Waiting s) {f : ViewField} {v : ViewValue} {rest : List Input}
    (hi : s.inputs = .read f :: rest) (hv : s.viewValue f = .ok v) :
    step s = .next ((s.withInputs rest).respond (.view v)) := by
  have hv : (s.withInputs rest).viewValue f = .ok v := hv
  rw [h.step_of_input hi, receive, readView, hv]

/-- The host reads a header field that has none (R37). -/
theorem Waiting.step_of_read_fault {s : State} (h : Waiting s) {f : ViewField} {e : Fault} {rest : List Input}
    (hi : s.inputs = .read f :: rest) (hv : s.viewValue f = .error e) : step s = .fault e := by
  have hv : (s.withInputs rest).viewValue f = .error e := hv
  rw [h.step_of_input hi, receive, readView, hv]

/-- Settles O53: a waiting block receives the read, and `viewValue` answers each field. -/
theorem statusViewIsReadOnly : Obligations.StatusViewIsReadOnly := by
  intro s rest waiting
  have waiting : Waiting s := waiting
  refine ⟨fun f v hi hv => waiting.step_of_read hi hv, fun w hw => ?_, fun h hh => ?_, fun c hc => ?_, fun c hc => ?_,
    rfl, rfl, rfl, rfl, rfl, rfl, rfl, rfl, rfl, rfl, rfl, rfl, rfl, rfl, rfl, rfl,
    fun hw hi => waiting.step_of_read_fault hi ?_, fun hh hi => waiting.step_of_read_fault hi ?_,
    fun hc hi => waiting.step_of_read_fault hi ?_, fun hc hi => waiting.step_of_read_fault hi ?_⟩
  all_goals simp [State.viewValue, readReg, Except.map, *]

/-! When a step stops. -/

/-- A command that ends has a next state: no command stops the machine (R145, R166). -/
theorem next_of_attempt_done {c : Command} {s : State} {a : Answer} (h : attempt c s = .done a) : ∃ t, a = .next t := by
  cases c with
  | reset => cases h; exact ⟨_, rfl⟩
  | parseHeader =>
    rcases parseHeader_end s with ⟨-, -, hp⟩ | ⟨_, _, _, _, -, -, -, hp⟩ | ⟨_, _, _, _, -, -, -, hp⟩ <;>
      cases hp.symm.trans h
    · exact ⟨_, rfl⟩
    · exact ⟨_, rfl⟩
  | next =>
    rcases nextPixel_done h with ⟨_, _, _, rfl⟩ | ⟨-, -, -, _, _, _, rfl⟩
    · exact ⟨_, rfl⟩
    · exact ⟨_, rfl⟩

/-- So a step that stops has received an input at which the block stops. -/
theorem receive_of_stop {s : State} (h : ∀ t, step s ≠ .next t) :
    ∃ i rest, s.inputs = i :: rest ∧ step s = receive i (s.withInputs rest) := by
  have waiting : Waiting s := by
    cases held : s.held with
    | none => exact .inl held
    | some c =>
      refine .inr ⟨c, held, ?_⟩
      cases ends : attempt c (s.setHeld none) with
      | hold => rfl
      | done a =>
        obtain ⟨t, rfl⟩ := next_of_attempt_done ends
        exact absurd (step_of_held held ends) (h t)
  cases hi : s.inputs with
  | nil => exact absurd (waiting.step_of_no_input hi) (h s)
  | cons i rest => exact ⟨i, rest, rfl, waiting.step_of_input hi⟩

/-- A field of the status view lacks a value only where a header register has none (R37). -/
theorem viewValue_error {f : ViewField} {s : State} {e : Fault} (h : s.viewValue f = .error e) :
    ∃ reg, e = .noValue reg := by
  have header : ∀ {α : Type} (reg : HeaderReg) (v : Option α) (view : α → ViewValue),
      (readReg reg v).map view = .error e → e = .noValue reg := by
    intro α reg v view hv
    cases v <;> cases hv
    rfl
  cases f with
  | width | height | channels | colorspace => exact ⟨_, header _ _ _ h⟩
  | phase | errcode | errinfo | emitted | refused => cases h

/-- A performed command ends in a next state, or holds in one. -/
theorem perform_next (c : Command) (s : State) : ∃ t, perform c s = .next t := by
  cases ends : attempt c s with
  | hold => exact ⟨_, perform_of_hold ends⟩
  | done a =>
    obtain ⟨t, rfl⟩ := next_of_attempt_done ends
    exact ⟨t, perform_of_done ends⟩

/-- What an idle block does with PARSE_HEADER or NEXT: it goes on to a next state, or stops after a refused command (R166). -/
theorem issueWork_cases (c : Command) (s : State) :
    (∃ t, issueWork c s = .next t) ∨ (issueWork c s = .refused (.afterRefused c) ∧ s.refused = true) := by
  unfold issueWork
  split_ifs with refuses refused
  · exact .inl ⟨_, rfl⟩
  · exact .inr ⟨rfl, refused⟩
  · exact .inl (perform_next c s)

/-- What a block does with a command: it goes on, or stops after a refused command or beside a held one (R166, R171). -/
theorem issue_cases (c : Command) (s : State) :
    (∃ t, issue c s = .next t) ∨ (issue c s = .refused (.afterRefused c) ∧ s.refused = true) ∨
    (issue c s = .refused (.concurrentCommand c) ∧ s.held ≠ none) := by
  by_cases hc : c = .reset
  · cases hc
    exact .inl ⟨_, rfl⟩
  cases held : s.held with
  | none =>
    rw [issue_of_idle hc held]
    exact (issueWork_cases c s).imp_right .inl
  | some d => exact .inr (.inr ⟨issue_of_held hc held, by simp⟩)

/-- What a block does with an input: it goes on, faults on a read of the status view that has no value (R37), or stops on a
command after a refused one or beside a held one. -/
theorem receive_cases (i : Input) (s : State) :
    (∃ t, receive i s = .next t) ∨
    (∃ f e, i = .read f ∧ s.viewValue f = .error e ∧ receive i s = .fault e) ∨
    (∃ c r, i = .command c ∧ receive i s = .refused r ∧
      (r = .afterRefused c ∧ s.refused = true ∨ r = .concurrentCommand c ∧ s.held ≠ none)) := by
  cases i with
  | byte | eos => exact .inl ⟨_, rfl⟩
  | read f =>
    cases hv : s.viewValue f with
    | ok v => exact .inl ⟨s.respond (.view v), by rw [receive, readView, hv]⟩
    | error e => exact .inr (.inl ⟨f, e, rfl, hv, by rw [receive, readView, hv]⟩)
  | command c =>
    rcases issue_cases c s with goes_on | ⟨stops, hr⟩ | ⟨stops, hh⟩
    · exact .inl goes_on
    · exact .inr (.inr ⟨c, _, rfl, stops, .inl ⟨rfl, hr⟩⟩)
    · exact .inr (.inr ⟨c, _, rfl, stops, .inr ⟨rfl, hh⟩⟩)

/-- Settles O57: an opcode is the common end of a pixel, and a step that stops has received an input at which it may. -/
theorem stopsAreOnlyTheNamedOnes : Obligations.StopsAreOnlyTheNamedOnes := by
  refine ⟨fun i s => ⟨_, exec_eq i s⟩, fun s => ⟨fun e stops => ?_, fun r stops => ?_⟩⟩
  · obtain ⟨i, rest, hi, received⟩ := receive_of_stop (s := s) (by simp [stops])
    rcases receive_cases i (s.withInputs rest) with
      ⟨_, h⟩ | ⟨f, _, rfl, hv, h⟩ | ⟨_, _, -, h, -⟩ <;> cases (stops.symm.trans received).trans h
    obtain ⟨reg, rfl⟩ := viewValue_error hv
    exact ⟨f, rest, reg, hi, rfl, hv⟩
  · obtain ⟨i, rest, hi, received⟩ := receive_of_stop (s := s) (by simp [stops])
    rcases receive_cases i (s.withInputs rest) with
      ⟨_, h⟩ | ⟨_, _, -, -, h⟩ | ⟨c, _, rfl, h, why⟩ <;> cases (stops.symm.trans received).trans h
    exact ⟨c, rest, hi, why⟩

end Sys2Proof.Machine
end

section
/-! Proofs about what a command leaves as it is (10_state.md R36, 20_memory.md R48, R51, 40_header.md R101, 42_pixel_opcodes.md
R144, 60_exceptions.md R156): the byte source, the inputs and REFUSED stay over every command but RESET, and all but the status
over one that raises. -/
namespace Sys2Proof.Machine

/-! What no command but RESET touches. -/

/-- `t` has the byte source, the inputs, the held command and REFUSED of `s`. -/
def SameSurroundings (s t : State) : Prop :=
  t.source = s.source ∧ t.exhausted = s.exhausted ∧ t.inputs = s.inputs ∧ t.held = s.held ∧ t.refused = s.refused

/-- `t` has the decoding state of `s`: PREV, RUNCNT, CACHE and EMITTED. -/
def SameDecoding (s t : State) : Prop :=
  t.prev = s.prev ∧ t.runcnt = s.runcnt ∧ t.cache = s.cache ∧ t.emitted = s.emitted

/-- PARSE_HEADER decodes no pixel. If it raises it writes no header register, else no error (R98, R101, R151). -/
theorem parseHeader_frame {s t : State} (h : parseHeader s = .done (.next t)) :
    SameSurroundings s t ∧ SameDecoding s t ∧
      ((t.phase = .error ∧ SameHeader s t) ∨ (t.phase ≠ .error ∧ t.errcode = s.errcode ∧ t.errinfo = s.errinfo)) := by
  rcases parseHeader_end s with ⟨-, -, hp⟩ | ⟨_, _, _, _, -, -, -, hp⟩ | ⟨w, ht, _, _, -, -, -, hp⟩ <;>
    cases hp.symm.trans h
  · exact ⟨⟨rfl, rfl, rfl, rfl, rfl⟩, ⟨rfl, rfl, rfl, rfl⟩, .inl ⟨rfl, rfl, rfl, rfl, rfl, rfl⟩⟩
  · refine ⟨⟨rfl, rfl, rfl, rfl, rfl⟩, ⟨rfl, rfl, rfl, rfl⟩, .inr ⟨?_, rfl, rfl⟩⟩
    rcases phaseAfterHeader_cases (pixelCount w ht) with hp | hp <;> simp [hp]

/-- However a command other than RESET ends, the bytes of the stream, the inputs and REFUSED stay (R36, R48). -/
theorem attempt_sameSurroundings {c : Command} {s t : State} (hc : c ≠ .reset) (h : attempt c s = .done (.next t)) :
    SameSurroundings s t := by
  cases c with
  | reset => exact absurd rfl hc
  | parseHeader => exact (parseHeader_frame h).1
  | next =>
    rcases nextPixel_done h with ⟨_, _, _, ht⟩ | ⟨-, -, -, _, _, _, ht⟩ <;> cases ht
    · exact ⟨rfl, rfl, rfl, rfl, rfl⟩
    · exact ⟨rfl, rfl, rfl, rfl, rfl⟩

/-- Settles O19: the frame of PARSE_HEADER, its header registers or its error with the phase. -/
theorem headerFrame : Obligations.HeaderFrame := by
  intro s t h
  obtain ⟨⟨source, exhausted, inputs, held, refused⟩, ⟨prev, runcnt, cache, emitted⟩, ends⟩ := parseHeader_frame h
  refine ⟨prev, runcnt, cache, emitted, refused, source, exhausted, inputs, held, fun herror => ?_, fun hphase => ?_⟩
  · rcases ends with ⟨-, same⟩ | ⟨noError, -⟩
    · exact same
    · exact absurd herror noError
  · rcases ends with ⟨herror, -⟩ | ⟨-, same⟩
    · exact absurd herror hphase
    · exact same

/-- Settles O8, by cases on what the step has done: a byte after the end is not taken, and no command touches the source. -/
theorem exhaustionIsFinal : Obligations.ExhaustionIsFinal := by
  intro s t he hstep hheld
  cases step_move hstep with
  | stay | read | refuse | hold => exact .inl ⟨he, rfl⟩
  | eos => exact .inl ⟨rfl, rfl⟩
  | byte v rest => exact .inl ⟨he, if_pos he⟩
  | reset rest hi => exact .inr ⟨rest, hi⟩
  | heldReset hh => exact absurd hh hheld
  | work _ _ _ hc _ _ _ _ hw | resume _ _ hc _ hw =>
    obtain ⟨source, exhausted, -⟩ := attempt_sameSurroundings hc hw
    exact .inl ⟨exhausted.trans he, source⟩

/-- Settles O9, by cases on what the step has done: the answer of a byte adds it, and no command touches the source. -/
theorem streamIsNeverWritten : Obligations.StreamIsNeverWritten := by
  intro s t hstep hheld
  cases step_move hstep with
  | stay | eos | read | refuse | hold => exact .inl rfl
  | byte v rest hi =>
    cases he : s.exhausted
    · exact .inr (.inl ⟨v, rest, hi, by simp [he]⟩)
    · exact .inl (by simp [he])
  | reset rest hi => exact .inr (.inr ⟨rest, hi⟩)
  | heldReset hh => exact absurd hh hheld
  | work _ _ _ hc _ _ _ _ hw | resume _ _ hc _ hw =>
    obtain ⟨source, -⟩ := attempt_sameSurroundings hc hw
    exact .inl source

/-- Settles O48, by cases on what the step has done: a command is performed only while REFUSED is clear, or was held. -/
theorem refusedIsSticky : Obligations.RefusedIsSticky := by
  intro s t hr hstep hheld
  cases step_move hstep with
  | stay | byte | eos | read | hold => exact .inl hr
  | refuse => exact .inl rfl
  | reset rest hi => exact .inr ⟨rest, hi⟩
  | heldReset hh => exact absurd hh hheld
  | work _ _ _ _ _ _ _ clear => cases clear.symm.trans hr
  | resume c _ hc _ hw =>
    obtain ⟨-, -, -, -, refused⟩ := attempt_sameSurroundings hc hw
    exact .inl (refused.trans hr)

/-! A command that raises. -/

/-- A pixel does not lead to phase ERROR (R114). -/
theorem State.produce_phase_ne_error_of_ne {s : State} (hphase : s.phase ≠ .error) (v : U32) (n : Nat) (p : Pixel) :
    ((s.setRuncnt v).produce n p).phase ≠ .error := by
  rcases (s.setRuncnt v).produce_phase_cases n p with ⟨-, hp⟩ | ⟨-, hp⟩ <;> rw [hp]
  · decide
  · exact hphase

/-- A NEXT that raises does so past bytes that are there (R108, R110). -/
theorem nextPixel_raises {s t : State} (hphase : s.phase ≠ .error) (h : nextPixel s = .done (.next t))
    (herror : t.phase = .error) : ∃ n stage value, n ≤ s.available.length ∧ t = failedAt s n .truncated stage value := by
  rcases nextPixel_cases s with
    ⟨-, hn⟩ | ⟨-, i, _, -, hn⟩ | ⟨-, -, -, hn⟩ | ⟨-, -, _, _, -, -, hn⟩ | ⟨-, -, -, hn⟩ <;> rw [hn] at h
  · rw [continueRun_eq] at h
    cases h
    exact absurd herror (State.produce_phase_ne_error_of_ne hphase _ _ _)
  · rw [exec_eq] at h
    cases h
    exact absurd herror (State.produce_phase_ne_error_of_ne hphase _ _ _)
  · cases h
    exact ⟨0, _, _, Nat.zero_le _, rfl⟩
  · cases h
    exact ⟨_, _, _, le_refl _, rfl⟩
  · cases h

/-- Settles O38: a raise is `failedAt` the bytes read, and a command that ends otherwise is not in phase ERROR. -/
theorem raisingChangesOnlyTheStatus : Obligations.RaisingChangesOnlyTheStatus := by
  intro c s t hc hphase h herror
  cases c with
  | reset => exact absurd rfl hc
  | parseHeader =>
    rcases parseHeader_end s with ⟨-, -, hp⟩ | ⟨code, stage, value, k, hk, -, hcode, hp⟩ | ⟨w, ht, _, _, -, -, -, hp⟩ <;>
      cases hp.symm.trans h
    · exact ⟨k, code, stage, value, hcode, hk, State.raise_consume k code stage value s⟩
    · rcases phaseAfterHeader_cases (pixelCount w ht) with hp | hp <;> cases hp.symm.trans herror
  | next =>
    obtain ⟨n, stage, value, hn, ht⟩ := nextPixel_raises hphase h herror
    exact ⟨n, .truncated, stage, value, by decide, hn, ht⟩

/-- Settles O29: an opcode is the common end of a pixel, whose updates are these. -/
theorem opcodeFrame : Obligations.OpcodeFrame := by
  intro i s t h
  cases (exec_eq i s).symm.trans h
  refine ⟨rfl, rfl, rfl, rfl, rfl, ⟨rfl, rfl, rfl⟩, rfl, rfl, rfl, rfl, ?_, rfl, fun j hj => ?_, ?_, rfl⟩
  · rcases (s.setRuncnt (runcntOf i s)).produce_phase_cases (instrLength i) (pixelOf i s) with ⟨-, hp⟩ | ⟨-, hp⟩
    · exact .inr hp
    · exact .inl hp
  · exact (State.cacheGet_produce _ _ j _).trans (if_neg hj)
  · cases i <;> rfl

end Sys2Proof.Machine
end

section
/-! Proofs about the pixels of a session (41_pixel_step.md R107 to R122, 42_pixel_opcodes.md R125 to R144): the value of each,
its place in the image and in the cache, and the end of the image. -/
namespace Sys2Proof.Machine

/-! The opcodes. -/

/-- Settles O25: RUN's field is RUNCNT, at the width of the register, and its pixel is PREV. -/
theorem runSetsTheRunCount : Obligations.RunSetsTheRunCount := by
  intro n s
  obtain ⟨t, hexec, prev, runcnt, status⟩ := exec_completes (.run n) s
  refine ⟨t, hexec, ?_, prev, status⟩
  rw [runcnt, runcntOf, BitVec.toNat_setWidth_of_le (by decide)]

/-- Settles O28: `addDelta` reduces modulo 256, and each opcode's pixel is `pixelOf`. -/
theorem channelArithmeticWraps : Obligations.ChannelArithmeticWraps := by
  have completes : ∀ (i : Instr) (s : State), ∃ t, exec i s = .next t ∧ sameStatus s t ∧ t.prev = pixelOf i s := by
    intro i s
    obtain ⟨t, hexec, prev, -, status⟩ := exec_completes i s
    exact ⟨t, hexec, status, prev⟩
  have alpha : ∀ (i : Instr) (s : State), ∃ t, exec i s = .next t ∧ sameStatus s t ∧ t.prev.a = (pixelOf i s).a := by
    intro i s
    obtain ⟨t, hexec, status, prev⟩ := completes i s
    exact ⟨t, hexec, status, congrArg Pixel.a prev⟩
  exact ⟨addDelta_toNat, fun s =>
    ⟨fun ur ug ub => completes (.diff ur ug ub) s, fun ugreen urg ubg => completes (.luma ugreen urg ubg) s,
      fun r g b => alpha (.rgb r g b) s, fun i => alpha (.index i) s, fun r g b a => alpha (.rgba r g b a) s,
      fun n => alpha (.run n) s⟩⟩

/-! The run continuation. -/

/-- Settles O27: a run continuation is the common end of PREV again, at length 0. -/
theorem runContinuationReadsNoByte : Obligations.RunContinuationReadsNoByte := by
  intro s hr
  refine ⟨_, nextPixel_of_run_owed hr, ?_, rfl, rfl, fun j => State.cacheGet_produce 0 s.prev j _, rfl, rfl, rfl, rfl, rfl⟩
  change (s.runcnt - 1).toNat = s.runcnt.toNat - 1
  bv_omega

/-! The hash and the cache. -/

/-- The largest sum is that of four channels at 255 (R112). -/
theorem hashSum_le (p : Pixel) : hashSum p ≤ 6630 := by
  unfold hashSum
  omega

/-- Settles O33: 64 divides `2 ^ k`, so the sum kept modulo `2 ^ k` is the same modulo 64. -/
theorem hashOfANarrowSumIsTheSame : Obligations.HashOfANarrowSumIsTheSame := by
  intro p k hk
  have divides : 64 ∣ 2 ^ k := pow_dvd_pow 2 hk
  exact ⟨hashSum_le p, (Nat.mod_mod_of_dvd _ divides).trans (pixelHash_toNat p).symm⟩

/-- A pixel that is in the cache at its hash already leaves the cache as it is (R43). -/
theorem State.cache_produce_of_cached {s : State} {p : Pixel} (h : s.cacheGet (pixelHash p) = p) (n : Nat) :
    (s.produce n p).cache = s.cache := by
  rw [State.produce_cache]
  conv_lhs => arg 3; rw [← h]
  exact Vector.set_getElem_self _

/-- Settles O41: once a run is owed PREV is in the cache at its hash. -/
theorem runContinuationKeepsTheCache : Obligations.RunContinuationKeepsTheCache := by
  intro s t h _ hr hn
  rw [nextPixel_of_run_owed hr, continueRun_eq] at hn
  cases hn
  exact State.cache_produce_of_cached (s := s.setRuncnt _) (h.prev_cached (h.run_after_pixel hr)) 0

/-- Settles O42: after a pixel the entry at its hash is that pixel, which INDEX loads and writes back. -/
theorem indexYieldsTheLatestPixel : Obligations.IndexYieldsTheLatestPixel := by
  intro s t hpixels hn hphase
  obtain ⟨-, cached, -⟩ := nextEmitsPrevious s t hpixels hn hphase
  refine ⟨_, rfl, cached, ?_⟩
  rw [cached]
  exact State.cache_produce_of_cached cached 1

/-! The end of the image and the place of a pixel. -/

/-- A NEXT that has not raised is the common end of a pixel. -/
theorem nextPixel_emits {s t : State} (hn : nextPixel s = .done (.next t)) (hphase : t.phase ≠ .error) :
    ∃ v n p, t = (s.setRuncnt v).produce n p := by
  rcases nextPixel_done hn with ⟨v, n, p, ht⟩ | ⟨-, -, -, _, _, _, ht⟩ <;> cases ht
  · exact ⟨v, n, p, rfl⟩
  · exact absurd rfl hphase

/-- `WIDTH * HEIGHT` does not overflow (R32). -/
theorem pixelCount_toNat (w h : U32) : (pixelCount w h).toNat = w.toNat * h.toNat := by
  have fits : w.toNat * h.toNat < 2 ^ 32 * 2 ^ 32 := Nat.mul_lt_mul'' w.isLt h.isLt
  rw [pixelCount, BitVec.toNat_ofNat]
  exact Nat.mod_eq_of_lt fits

/-- Every pixel before the last has its place in the raster, by division of its number by the width (R62, R118). -/
theorem rasterPosition_lt {k : Nat} {w h : U32} (hk : k < w.toNat * h.toNat) :
    (rasterPosition k w).1 < w.toNat ∧ (rasterPosition k w).2 < h.toNat ∧
      k = (rasterPosition k w).2 * w.toNat + (rasterPosition k w).1 := by
  have width : 0 < w.toNat := Nat.pos_of_mul_pos_right (Nat.zero_lt_of_lt hk)
  exact ⟨Nat.mod_lt k width, Nat.div_lt_of_lt_mul hk, (Nat.div_add_mod' k w.toNat).symm⟩

/-- Settles O43: a pixel is appended to those of the session, which are EMITTED many and fewer than TOTAL. -/
theorem pixelsComeInRowMajorOrder : Obligations.PixelsComeInRowMajorOrder := by
  intro s t h hpixels hn hphase
  obtain ⟨w, ht, c, cs, hw, hht, -, -, -, -, htotal, -⟩ := h.header_known (.inl hpixels)
  have counted : (sessionPixels s.responses).length = s.emitted.toNat := h.session_counted (by simp [htotal])
  have left : s.emitted.toNat < w.toNat * ht.toNat := pixelCount_toNat w ht ▸ h.pixels_left hpixels _ htotal
  obtain ⟨responses, -, -⟩ := nextEmitsPrevious s t hpixels hn hphase
  have appended : sessionPixels t.responses = sessionPixels s.responses ++ [t.prev] := by
    rw [responses, sessionPixels_pixel]
  refine ⟨appended, ?_, ?_, w, ht, hw, hht, rasterPosition_lt left⟩
  · rw [appended, ← counted, List.getElem?_concat_length]
  · rw [appended, List.length_append, counted, List.length_singleton]

/-- Settles O35: PHASE is DONE where EMITTED has reached TOTAL, which is WIDTH*HEIGHT, and the session's pixels are EMITTED
many. -/
theorem imageEndsAtTotal : Obligations.ImageEndsAtTotal := by
  intro s t h hpixels hn hphase
  obtain ⟨w, ht, c, cs, hw, hht, -, -, -, -, htotal, -⟩ := h.header_known (.inl hpixels)
  obtain ⟨succ, -⟩ := h.emitted_succ hpixels htotal
  obtain ⟨-, -, given, -⟩ := pixelsComeInRowMajorOrder s t h hpixels hn hphase
  obtain ⟨v, n, p, rfl⟩ := nextPixel_emits hn hphase
  rcases State.produce_phase_of_pixels hpixels v n p with ⟨last, done⟩ | ⟨more, pixels⟩
  · have all : s.emitted.toNat + 1 = w.toNat * ht.toNat := by
      have total : pixelCount w ht = s.emitted + 1 := Option.some.inj (htotal.symm.trans last)
      rw [← succ, ← total, pixelCount_toNat]
    have notPixels : ((s.setRuncnt v).produce n p).phase ≠ .pixels := by rw [done]; decide
    refine ⟨iff_of_true done last, fun _ => ⟨⟨w, ht, hw, hht, succ.trans all, given.trans all⟩, fun rest idle => ?_⟩⟩
    exact refusedCommandOnlyMarks _ .next rest idle rfl (.inr ⟨rfl, notPixels⟩)
  · have notDone : ((s.setRuncnt v).produce n p).phase ≠ .done := by rw [pixels]; decide
    exact ⟨iff_of_false notDone more, fun done => absurd done notDone⟩

/-! What takes no part in NEXT. -/

/-- `s` with other header registers. -/
def State.withHeader (w h : Option U32) (c cs : Option Byte) (s : State) : State :=
  { s with width := w, height := h, channels := c, colorspace := cs }

/-- No opcode reads a header register (R122, R145). -/
theorem exec_withHeader {i : Instr} {s t : State} (w h : Option U32) (c cs : Option Byte) (hi : exec i s = .next t) :
    exec i (s.withHeader w h c cs) = .next (t.withHeader w h c cs) := by
  cases i <;> cases hi <;> rfl

/-- Settles O40, by cases on what NEXT does: it looks at RUNCNT and the bytes, and an opcode at no header register. -/
theorem headerFieldsTakeNoPartInNext : Obligations.HeaderFieldsTakeNoPartInNext := by
  intro s t w h c cs hn
  change nextPixel (s.withHeader w h c cs) = .done (.next (t.withHeader w h c cs))
  rcases nextPixel_cases s with
    ⟨hr, hs⟩ | ⟨hr, i, rest, hd, hs⟩ | ⟨hr, ha, he, hs⟩ | ⟨hr, he, op, data, ha, short, hs⟩ | ⟨-, -, -, hs⟩ <;>
    rw [hs] at hn
  · rw [continueRun_eq] at hn
    cases hn
    exact nextPixel_of_run_owed (s := s.withHeader w h c cs) hr
  · rw [nextPixel_of_decode (s := s.withHeader w h c cs) hr hd, exec_withHeader w h c cs (Attempt.done.inj hn)]
  · cases hn
    exact nextPixel_of_op_missing (s := s.withHeader w h c cs) hr he ha
  · rw [ha, List.length_cons] at short
    rw [ha, List.length_cons, Nat.add_comm] at hn
    cases hn
    exact nextPixel_of_operand_missing (s := s.withHeader w h c cs) hr he ha short
  · cases hn

end Sys2Proof.Machine
end

section
/-! Proofs about reading the header (40_header.md R91 to R103) and about bytes that come later (41_pixel_step.md R119): a legal
header is stored as it was encoded, a cut one is truncated, and what a command did not need changes nothing. -/
namespace Sys2Proof.Machine

/-- A 32-bit field is what its four bytes are, big-endian (R68, R69, R86). -/
theorem bigEndian32_bytes (w : U32) :
    bigEndian32 [w.extractLsb' 24 8, w.extractLsb' 16 8, w.extractLsb' 8 8, w.extractLsb' 0 8] = w := by
  refine BitVec.eq_of_toNat_eq ?_
  simp only [bigEndian32_toNat, BitVec.extractLsb'_toNat]
  omega

/-- PHASE after a legal header tells an empty image by its exact product (R98, R100). -/
theorem phaseAfterHeader_pixelCount (w h : U32) :
    phaseAfterHeader (pixelCount w h) = if w.toNat * h.toNat = 0 then .done else .pixels := by
  split_ifs with empty
  · exact phaseAfterHeader_eq_done.mpr (BitVec.eq_of_toNat_eq ((pixelCount_toNat w h).trans empty))
  · exact phaseAfterHeader_eq_pixels.mpr fun zero => empty (by rw [← pixelCount_toNat, zero]; rfl)

/-- Settles O14: the bytes of the header are read into its fields, which are then stored. -/
theorem headerRoundTrip : Obligations.HeaderRoundTrip := by
  intro s w h c cs rest ha hc hcs
  have stores := (parseHeader_of_available
    (w := [w.extractLsb' 24 8, w.extractLsb' 16 8, w.extractLsb' 8 8, w.extractLsb' 0 8])
    (h := [h.extractLsb' 24 8, h.extractLsb' 16 8, h.extractLsb' 8 8, h.extractLsb' 0 8]) rfl rfl ha).trans
    (checkHeader_legal hc hcs)
  rw [bigEndian32_bytes, bigEndian32_bytes] at stores
  exact ⟨_, _, stores, rfl, rfl, rfl, rfl, rfl, pixelCount_toNat w h, phaseAfterHeader_pixelCount w h, rfl, rfl⟩

/-- With a good magic and the source ended in bytes 4 to 13, a read of PARSE_HEADER meets the end past all bytes there are
(R95, R152). -/
theorem parseHeader_of_cut {s : State} (he : s.exhausted = true) (good : s.available.take 4 = magic)
    (short : s.available.length < 14) :
    parseHeader s = .done (.next (failedAt s s.available.length .truncated .header 0)) := by
  have four : 4 ≤ s.available.length := by
    have taken : (s.available.take 4).length = 4 := by rw [good]; rfl
    rw [List.length_take] at taken
    omega
  have cut : ∀ {k : Nat}, k = s.available.length →
      raised .truncated .header 0 (s.consume k) = .done (.next (failedAt s s.available.length .truncated .header 0)) := by
    rintro _ rfl
    rfl
  have ended : ∀ {P : Prop}, s.exhausted = false → P := fun notEnded => by cases he.symm.trans notEnded
  unfold parseHeader
  rw [inBytes_eq, if_pos four]
  refine (if_neg (not_not.mpr good)).trans ?_
  refine resolve_inBytes (P := (· = _)) (fun he' _ => ended he') (fun hn => ?_) fun h8 =>
    resolve_inBytes (P := (· = _)) (fun he' _ => ended he') (fun hn => ?_) fun h12 =>
    resolve_inByte (P := (· = _)) (fun he' _ => ended he') (fun hn => ?_) fun c h13 =>
    resolve_inByte (P := (· = _)) (fun he' _ => ended he') (fun hn => ?_) fun cs h14 => ?_
  all_goals
    simp only [State.available_consume, State.consume_consume, List.length_drop, Nat.reduceAdd] at *
  any_goals exact cut (by omega)
  omega

/-- Settles O18: at CURSOR 0 the bytes that are there are the source. -/
theorem cutHeaderIsTruncated : Obligations.CutHeaderIsTruncated := by
  intro s hcursor he good short
  rw [← State.available_of_cursor_zero hcursor] at good short ⊢
  exact parseHeader_of_cut he good short

/-! Bytes that come later. -/

/-- `s` with more bytes behind those of its source, and its end known or not. -/
def State.extend (more : List Byte) (ended : Bool) (s : State) : State :=
  { s with source := s.source ++ more, exhausted := ended }

/-- A command that ends before the end of the source is known ends the same with more behind the bytes it had. -/
def Steady (command : State → Attempt) : Prop :=
  ∀ (s t : State) (more : List Byte) (ended : Bool), s.exhausted = false → command s = .done (.next t) →
    command (s.extend more ended) = .done (.next (t.extend more ended))

/-- Bytes that are there stay where they are. -/
theorem State.available_extend {s : State} (h : s.available ≠ []) (more : List Byte) (ended : Bool) :
    (s.extend more ended).available = s.available ++ more :=
  List.drop_append_of_le_length (not_lt.mp (mt (List.drop_eq_nil_of_le ∘ le_of_lt) h))

theorem steady_raised (code : ErrCode) (stage : Stage) (value : Byte) : Steady (raised code stage value) := by
  intro s t more ended _ h
  cases h
  rfl

theorem steady_checkHeader (w h : List Byte) (c cs : Byte) : Steady (checkHeader w h c cs) := by
  intro s t more ended he hd
  unfold checkHeader at hd ⊢
  split_ifs at hd ⊢
  · exact steady_raised _ _ _ s t more ended he hd
  · exact steady_raised _ _ _ s t more ended he hd
  · cases hd
    rfl

/-- A read before the end of the source is known goes on only with bytes that are there. -/
theorem steady_inBytes {n : Nat} (hn : 0 < n) (onEos : State → Attempt) {onGot : List Byte → State → Attempt}
    (got : ∀ bs, Steady (onGot bs)) : Steady fun s => (inBytes n s).resolve onEos onGot := by
  intro s t more ended he h
  beta_reduce at h ⊢
  by_cases enough : n ≤ s.available.length
  · have there : s.available ≠ [] := List.length_pos_iff.mp (hn.trans_le enough)
    have enough' : n ≤ (s.extend more ended).available.length := by
      rw [State.available_extend there, List.length_append]
      omega
    rw [inBytes_eq, if_pos enough] at h
    rw [inBytes_eq, if_pos enough', State.available_extend there, List.take_append_of_le_length enough]
    exact got _ (s.consume n) t more ended he h
  · rw [inBytes_hold (not_le.mp enough) he] at h
    cases h

theorem steady_inByte (onEos : State → Attempt) {onGot : Byte → State → Attempt}
    (got : ∀ b, Steady (onGot b)) : Steady fun s => (inByte s).resolve onEos onGot := by
  intro s t more ended he h
  beta_reduce at h ⊢
  rcases inByte_cases s with ⟨v, tail, ha, hb⟩ | ⟨-, he', -⟩ | ⟨-, -, hb⟩
  · have ha' : (s.extend more ended).available = v :: (tail ++ more) := by
      rw [State.available_extend (by simp [ha]), ha, List.cons_append]
    rw [hb] at h
    rw [inByte_cons ha']
    exact got v (s.consume 1) t more ended he h
  · cases he.symm.trans he'
  · rw [hb] at h
    cases h

theorem steady_parseHeader : Steady parseHeader := by
  refine steady_inBytes (by decide) _ fun m => ?_
  split_ifs
  · exact steady_raised _ _ _
  · exact steady_inBytes (by decide) _ fun w => steady_inBytes (by decide) _ fun h => steady_inByte _ fun c =>
      steady_inByte _ fun cs => steady_checkHeader w h c cs

theorem steady_exec (i : Instr) : Steady fun s => .done (exec i s) := by
  intro s t more ended _ h
  cases i <;> cases h <;> rfl

theorem steady_continueRun : Steady fun s => .done (continueRun s) := by
  intro s t more ended _ h
  cases h
  rfl

/-- A NEXT that ends before the end of the source is known continues a run, or has the whole opcode. -/
theorem steady_nextPixel : Steady nextPixel := by
  intro s t more ended he hn
  rcases nextPixel_cases s with
    ⟨hr, hs⟩ | ⟨hr, i, rest, hd, hs⟩ | ⟨-, -, he', -⟩ | ⟨-, he', -⟩ | ⟨-, -, -, hs⟩
  · rw [nextPixel_of_run_owed (s := s.extend more ended) hr]
    exact steady_continueRun s t more ended he (hs.symm.trans hn)
  · have there : s.available ≠ [] := fun none => by rw [none] at hd; cases hd
    have hd' : decode (s.extend more ended).available = .ok (i, rest ++ more) := by
      rw [State.available_extend there]
      exact decode_append more hd
    rw [nextPixel_of_decode (s := s.extend more ended) hr hd']
    exact steady_exec i s t more ended he (hs.symm.trans hn)
  · cases he.symm.trans he'
  · cases he.symm.trans he'
  · cases hs.symm.trans hn

/-- Settles O12: PARSE_HEADER and NEXT are steady. -/
theorem laterBytesChangeNoResult : Obligations.LaterBytesChangeNoResult := by
  intro s t c more ended hc he h
  cases c with
  | reset => exact absurd rfl hc
  | parseHeader => exact steady_parseHeader s t more ended he h
  | next => exact steady_nextPixel s t more ended he h

end Sys2Proof.Machine
end
